-- ==== Sys2Proof/Word.lean ====
section
/-!
DEFINITION. The word types of the SH-24: bytes of the authority line and of the local link, sixteen-bit fields
(epochs, location tags, two-byte values) and the time unit of the model. Nothing here follows a rule of its own;
section 1.8 of spec/00_scope.md gives the conventions.
-/

namespace Sys2Proof

/-- A byte of a frame, of a local link message or of the settings block. -/
abbrev Byte := BitVec 8

/-- A two-byte field of a frame or of a message. -/
abbrev Half := BitVec 16

/-- An epoch: a whole number from 0 to 65535 that wraps from 65535 to 0 (00_scope.md, 1.8). -/
abbrev Epoch := BitVec 16

/-- `n` milliseconds in the model's unit of time, the microsecond (log entry 1). -/
abbrev ms (n : Nat) : Nat := 1000 * n

/-- `n` seconds in the model's unit of time. -/
abbrev sec (n : Nat) : Nat := 1000000 * n

end Sys2Proof
end

