-- ==== Sys2Proof/Syntax.lean ====
section
/-!
DEFINITION. The commands of the block: one constructor of `Instr` for each row of spec/opcode_table.json, with the
row's operands, and the words those operands are made of. The table's rows carry no bits and no operand list; the
operands below are what the rule of the row says the event carries (a byte, an input and its new state, the body of a
request). A request row stands for the arrival of that request's message with a check that agrees (R173, R174); its
operands are the tag and the body bytes of Table 10-4, exactly as they come, in range or not.
-/

namespace Sys2Proof

/-- The role of a unit (R189): chair role when the ROLE strap reads low, loader role when it reads high. -/
inductive Role where
  | chair
  | loader
  deriving DecidableEq, Repr, Inhabited

/-- The mode of a hold: DRIVE, coded 1, or SUPERVISE, coded 2 (section 2.3). -/
inductive Mode where
  | drive
  | supervise
  deriving DecidableEq, Repr, Inhabited

/-- The four discrete inputs of R153. In loader role the last three are spare. -/
inductive Input where
  | stopchain
  | seat
  | deadman
  | confirm
  deriving DecidableEq, Repr, Inhabited

/-- The levels on the strap pins when a configuration load reads them (R189): `role` is `true` for a high level
(loader role), `station` the six STATION pins with STATION0 the least significant bit. -/
structure Straps where
  role    : Bool
  station : BitVec 6
  deriving DecidableEq, Repr, Inhabited

/-- The commands. The comment before each group names the rules of its rows. A loader operand of an expiry says which
Hold Table entry's or which Call Board item's timer expires, since the part keeps one for each. The operand of a fall of
RESET is how many whole microseconds RESET has been low when the fall is taken (R194, log entry 19). -/
inductive Instr where
  -- Line Interface Unit: R2, R8, R16, R17, R1, R18, R20
  | lcdRise
  | receptionComplete
  | gapMet
  | waitExpiry
  | keyUpLeadExpiry
  | sendingComplete
  | lineBlockedExpiry
  -- loader-side Authority Engine: R40, R43, R45, R27, R44, R46, R50
  | transferDeadlineExpiry
  | reclaimDeadlineExpiry
  | assistRepeatExpiry
  | statusTimerExpiry
  | assistRaise (tag : Byte) (location : Half)
  | assistCancel (tag : Byte)
  | readRecord (tag : Byte)
  -- chair-side Authority Engine: R52, R53, R60, R63 to R69, R58, R76
  | standUp (tag : Byte)
  | standDown (tag : Byte)
  | claim (tag loader mode : Byte)
  | setMode (tag loader mode : Byte)
  | offer (tag loader target mode : Byte) (expiry : Half)
  | withdraw (tag loader : Byte)
  | release (tag loader : Byte)
  | seize (tag loader mode : Byte)
  | pause (tag loader : Byte)
  | resume (tag loader : Byte)
  | readHolds (tag : Byte)
  | answerDeadlineExpiry (loader : Byte)
  | offerDeadlineExpiry (loader : Byte)
  -- Call Board: R91, R93, R96, R101, R100
  | itemDeadlineExpiry (loader : Byte)
  | acceptItem (tag loader : Byte)
  | declineItem (tag loader : Byte)
  | dismissItem (tag loader : Byte)
  | readBoard (tag : Byte)
  | gestureWindowExpiry
  -- Freshness Monitor and Speed Envelope Unit: R112, R120, R116
  | lapseTimerExpiry
  | envelopeIntervalExpiry
  | absenceDeadlineExpiry (loader : Byte)
  -- Command Relay, chair side: R138, R139, R142
  | axes (tag steer : Byte) (travel : Half) (boom bucket : Byte)
  | driveIntervalExpiry
  | superviseDeadlineExpiry (loader : Byte)
  -- Discrete Line Unit: R156, R159, R165, R167, R170, R171
  | filteredEdge (input : Input) (active : Bool)
  | indicatorFlash
  | localStop (tag : Byte)
  | stopListDue
  | stop (tag loader : Byte)
  | stopAll (tag : Byte)
  | clear (tag loader : Byte)
  -- Local Link: R173, R174, R177, R186, R187, R181, R183, R178, R179, R180
  | localMessageDiscarded
  | interByteTimeout
  | requestWhileBusy (kind tag : Byte)
  | readIdentity (tag : Byte)
  | readCounters (tag : Byte)
  | readFlags (tag : Byte) (flags : Half)
  | setMask (tag : Byte) (mask : Half)
  | addCredit (tag n : Byte)
  | mark (tag : Byte)
  | restartSoft (tag : Byte)
  | restartFull (tag : Byte)
  | report (tag : Byte) (speed location : Half) (zone : Byte)
  | messageSent (straps : Straps)
  -- Start-up and Configuration: R194, R190
  | powerOn
  | powerOnHoldExpiry (straps : Straps)
  | supplyFall
  | resetFallFor (low : Nat)
  | resetRise (straps : Straps)
  | memoryStatusRead (status : Byte)
  | memoryRetryExpiry
  | settingsBlockRead (block : List Byte)
  -- bytes and samples taken from the pins: R2, R173, R154; and R175
  | lrxdByteReceived (byte : Byte)
  | llrxByteReceived (byte : Byte) (stopBit : Bool)
  | inputSample (stopchain in2 in3 in4 : Bool)
  | unknownRequestKind (kind tag : Byte)
  deriving DecidableEq, Repr

/-- RESET_FALL as the opcode table words it: RESET low for 10 µs, the shortest low pulse that restarts the part (R194). -/
abbrev Instr.resetFall : Instr := .resetFallFor 10

end Sys2Proof
end

