-- ==== Sys2Proof/Machine/State.lean ====
section
/-!
DEFINITION. The state of an SH-24, block by block as Table 1-1 names them, as plain data. The default value of each
field is the value every restart gives it, unless the field's comment says otherwise; `State.reset` is the part right
after the supply has risen (log entry 4). Times are absolute, in microseconds of the model's clock `now` (log entry 1).
A timer or deadline is `none` while it is stopped.
-/

namespace Sys2Proof.Machine

/-! ### Frames of the authority line (sections 2.2 and 2.3) -/

/-- The fifteen kinds of frame of Table 2-2. -/
inductive FrameKind where
  | drive | supervise | status
  | offer | withdraw | accept | decline | claim | seize | release | grant | refuse | assistCall
  | stop | clear
  deriving DecidableEq, Repr

/-- The transmit classes of section 2.3. -/
inductive FrameClass where
  | s | a | c
  deriving DecidableEq, Repr

/-- What the completion of a frame's sending is reported to (R18): nothing; the status timer (R27); the outstanding
frame or the offer of a Hold Table entry, by its reference number (R57, R64); the stop list (R167); the unsent CLEAR
(R171). The model's own way to say whose frame it is (log entry 10). -/
inductive FrameOwner where
  | plain
  | status
  | outstanding (ref : Nat)
  | offer (ref : Nat)
  | stop
  | clear
  deriving DecidableEq, Repr

/-- A queued frame (R12): the sending block's fields and the access window W. The LIU fills the source, the sequence,
the body length and the check at the start of the sending (R3). -/
structure TxFrame where
  kind   : FrameKind
  dest   : Nat
  loader : Nat
  epoch  : Epoch
  body   : List Byte
  window : Nat
  owner  : FrameOwner
  deriving DecidableEq, Repr

/-- A received frame that has passed the receive check (R8). -/
structure RxFrame where
  kind   : FrameKind
  source : Nat
  dest   : Nat
  loader : Nat
  epoch  : Epoch
  seq    : Byte
  body   : List Byte
  deriving DecidableEq, Repr

/-! ### Line Interface Unit (chapter 2) -/

/-- A sending under way (R1, R18): the frame, its bytes with the source, sequence, length and check filled, the moment
LKEY was raised, and whether the key-up lead is over. -/
structure Sending where
  frame    : TxFrame
  bytes    : List Byte
  started  : Nat
  leadOver : Bool
  deriving DecidableEq, Repr

/-- The states of channel access (section 2.6). The candidate of WAIT is the head of the queue (log entry 9). -/
inductive Access where
  | idle
  | gap
  | wait (expiry : Nat)
  | sending (s : Sending)
  deriving DecidableEq, Repr

/-- The Line Interface Unit. `lcd` is the level of the LCD pin and no restart changes it. `gapFrom` is the moment the
gap of R16 is measured from. `draws` counts the access draws since restart (the generator of R17, log entry 7). -/
structure Liu where
  lcd       : Bool := false
  lkey      : Bool := false
  ltxd      : List Byte := []
  receiving : Bool := false
  rxBuffer  : List Byte := []
  rxCount   : Nat := 0
  badFrames : Nat := 0
  classS    : List TxFrame := []
  classA    : List TxFrame := []
  classC    : List TxFrame := []
  access    : Access := .idle
  gapFrom   : Nat := 0
  sequence  : Byte := 0
  blocked   : Option Nat := none
  draws     : Nat := 0
  deriving DecidableEq, Repr

/-! ### The Authority Record (chapter 3) -/

/-- A station, or a pool from 1 to 8: the target of an offer (R36). -/
inductive Party where
  | station (n : Nat)
  | pool (p : Nat)
  deriving DecidableEq, Repr

/-- The authority states of Table 3-1. -/
inductive AuthState where
  | free | held | transfer | assist | orphan
  deriving DecidableEq, Repr

/-- The incoming field: party, offered mode and offer deadline (the transfer deadline). -/
structure Incoming where
  party    : Party
  mode     : Mode
  deadline : Nat
  deriving DecidableEq, Repr

/-- The last lapsed offer (R40). -/
structure LapsedOffer where
  party : Party
  mode  : Mode
  deriving DecidableEq, Repr

/-- The state of the record with the fields Table 3-2 gives each state: the holder, the mode, and what else is present.
In ASSIST the mode is SUPERVISE; in ORPHAN the holder is suspended and the mode is that of the hold that lapsed. -/
inductive Authority where
  | free
  | held (holder : Nat) (mode : Mode) (lapsed : Option LapsedOffer)
  | transfer (holder : Nat) (mode : Mode) (incoming : Incoming)
  | assist (holder : Nat) (location : Half) (nextRepeat : Nat)
  | orphan (holder : Nat) (mode : Mode) (deadline : Nat)
  deriving DecidableEq, Repr

/-- The last grant: epoch, new holder or none, mode, previous holder or none (R25). -/
structure Grant where
  epoch    : Epoch
  holder   : Option Nat
  mode     : Option Mode
  previous : Option Nat
  deriving DecidableEq, Repr

/-- The Authority Record of Table 3-2 with the status timer of R27. -/
structure Record where
  auth        : Authority := .free
  epoch       : Epoch := 0
  lastGrant   : Option Grant := none
  statusTimer : Option Nat := none
  deriving DecidableEq, Repr

/-! ### Freshness Monitor and Speed Envelope Unit, loader role (chapters 6 and 7) -/

/-- A hold view: current holder, mode, epoch and state as the Engine last gave them (R48, R104, R144). -/
structure HoldView where
  holder : Option Nat := none
  mode   : Option Mode := none
  epoch  : Epoch := 0
  state  : AuthState := .free
  deriving DecidableEq, Repr

/-- The remembered sequence with the moment of its take (R106). -/
structure Remembered where
  seq   : Byte
  taken : Nat
  deriving DecidableEq, Repr

/-- Table 6-1. The link window is kept oldest slot first. -/
structure Monitor where
  view         : HoldView := {}
  lastHolderAt : Option Nat := none
  remembered   : Option Remembered := none
  openMark     : Bool := false
  window       : List Bool := List.replicate 8 false
  lapse        : Option Nat := none
  deriving DecidableEq, Repr

/-- Table 7-1: the cap in force, the supervision permit and the envelope interval timer. -/
structure Envelope where
  cap    : Nat := 0
  permit : Bool := false
  timer  : Option Nat := none
  deriving DecidableEq, Repr

/-! ### Command Relay (chapter 8) -/

/-- The latest axes, clamped, with the moment of their arrival (R138). -/
structure Axes where
  steer   : Int
  travel  : Int
  boom    : Int
  bucket  : Int
  arrived : Nat
  deriving DecidableEq, Repr

/-- The freshness field of a command record (R145). -/
inductive Freshness where
  | new
  | repeated
  deriving DecidableEq, Repr

/-- A command record, with the fields of Table 8-3; mode `none` is the mode of a zeroed record. The default is the
zeroed record of R150. -/
structure CommandRecord where
  mode       : Option Mode := none
  steer      : Int := 0
  travel     : Int := 0
  boom       : Int := 0
  bucket     : Int := 0
  cap        : Nat := 0
  continueOk : Bool := false
  motion     : Bool := false
  freshness  : Freshness := .repeated
  deriving DecidableEq, Repr

/-- Tables 8-1 and 8-2. The supervise deadlines of R142 stand in the Hold Table entries. -/
structure Relay where
  axes       : Option Axes := none
  driveTimer : Option Nat := none
  lastRecord : CommandRecord := {}
  taken      : Bool := false
  view       : HoldView := {}
  deriving DecidableEq, Repr

/-! ### The Hold Table (chapter 4) -/

/-- The chair posture (R51). -/
inductive Posture where
  | active
  | standingDown
  | vacant
  deriving DecidableEq, Repr

/-- The kinds of an outstanding frame (R56). -/
inductive OutKind where
  | claim | seize | accept | release
  deriving DecidableEq, Repr

/-- An outstanding frame with its attempts and answer deadline (R57). `mode` is absent for RELEASE. `ref` is the
model's reference number (log entry 10). -/
structure Outstanding where
  kind     : OutKind
  mode     : Option Mode
  epoch    : Epoch
  attempts : Nat
  deadline : Nat
  ref      : Nat
  deriving DecidableEq, Repr

/-- The origin of an ACQUIRING entry; MODE_CHANGE keeps the return mode (R56). -/
inductive Origin where
  | new
  | modeChange (back : Mode)
  | reclaim
  deriving DecidableEq, Repr

/-- The offer of an OFFERING entry; its deadline runs from the completion of the OFFER's sending (R64). -/
structure ChairOffer where
  target   : Party
  mode     : Mode
  span     : Nat
  deadline : Option Nat
  ref      : Nat
  deriving DecidableEq, Repr

/-- The last offer of a HELD entry (R65, R75, R76). -/
structure LastOffer where
  target : Party
  mode   : Mode
  deriving DecidableEq, Repr

/-- The phases of an entry with the fields Table 4-1 gives each. -/
inductive Phase where
  | acquiring (origin : Origin) (out : Outstanding)
  | held (lastOffer : Option LastOffer)
  | offering (offer : ChairOffer)
  | releasing (out : Outstanding)
  | suspended
  deriving DecidableEq, Repr

/-- The loader report: seven figures of the last STATUS heard, as received (R77). -/
structure LoaderReport where
  state       : Byte
  cap         : Byte
  speed       : Half
  link        : Byte
  stopLatched : Bool
  setter      : Byte
  assist      : Bool
  deriving DecidableEq, Repr

/-- An entry of the Hold Table (Table 4-1), with the Freshness Monitor's four things of R114 (the moment of addition
serves the status age while no STATUS has been heard) and the supervise deadline of R142. -/
structure Entry where
  loader       : Nat
  mode         : Mode
  phase        : Phase
  epoch        : Epoch
  continueOk   : Bool
  assist       : Bool := false
  report       : Option LoaderReport := none
  addedAt      : Nat
  lastStatusAt : Option Nat := none
  absence      : Option Nat
  absent       : Bool := false
  alertLatch   : Bool := false
  supervise    : Option Nat := none
  deriving DecidableEq, Repr

/-- The chair-side Authority Engine: posture and Hold Table, oldest entry first. `nextRef` numbers outstanding frames
and offers (the model's own, log entry 10). -/
structure Holds where
  posture : Posture := .vacant
  entries : List Entry := []
  nextRef : Nat := 0
  deriving DecidableEq, Repr

/-! ### The Call Board (chapter 5) -/

/-- The kinds of item with the fields Table 5-1 gives each. -/
inductive ItemKind where
  | namedOffer (offering : Nat)
  | assist (pool : Nat) (location : Half)
  | poolOffer (offering : Nat) (pool : Nat)
  deriving DecidableEq, Repr

/-- An item of the Call Board (Table 5-1). -/
structure Item where
  loader    : Nat
  kind      : ItemKind
  mode      : Mode
  epoch     : Epoch
  deadline  : Nat
  presented : Bool
  deriving DecidableEq, Repr

/-- The requests that arm the gesture (R98). ACCEPT_ITEM is the Board's, the others are the Engine's. -/
inductive GestureRequest where
  | acceptItem | claim | reclaim | setMode
  deriving DecidableEq, Repr

/-- An armed gesture (R98). Its owner follows from its request. -/
structure Gesture where
  loader   : Nat
  request  : GestureRequest
  deadline : Nat
  deriving DecidableEq, Repr

/-- The Call Board: its items in arrival order and the gesture, `none` when not armed. -/
structure Board where
  items   : List Item := []
  gesture : Option Gesture := none
  deriving DecidableEq, Repr

/-! ### Discrete Line Unit (chapter 9) -/

/-- The run of a filter: the value of the latest sample and how many in a row gave it, 1 to 3 (R154). -/
structure Run where
  value : Bool
  count : Nat
  deriving DecidableEq, Repr

/-- An input filter (R154): filtered state (`true` is active), settled mark and run. -/
structure InputFilter where
  active  : Bool := false
  settled : Bool := false
  run     : Option Run := none
  deriving DecidableEq, Repr

/-- The cause held by a set stop latch: its reason and setter (R161). The setter of a local reason is 0. -/
inductive StopCause where
  | frame (reason : Byte) (setter : Nat)
  | localChain
  | localStop
  | duplicate
  deriving DecidableEq, Repr

/-- An entry of the stop list (R167). -/
structure StopEntry where
  loader    : Nat
  reason    : Byte
  notBefore : Nat
  deriving DecidableEq, Repr

/-- The Discrete Line Unit: the filters and their sample timer, the stop latch (kept by every restart but power-on),
the stop list with its outstanding mark, the unsent mark of R171, the pins MOTION_ENABLE and INDICATOR, and the timer
of the indicator's flashing (R159). -/
structure Discrete where
  stopchain       : InputFilter := {}
  seat            : InputFilter := {}
  deadman         : InputFilter := {}
  confirm         : InputFilter := {}
  nextSample      : Option Nat := none
  latch           : Option StopCause := none
  stopList        : List StopEntry := []
  stopOutstanding : Bool := false
  clearUnsent     : Bool := false
  motionEnable    : Bool := false
  indicator       : Bool := false
  flash           : Option Nat := none
  deriving DecidableEq, Repr

/-! ### The Local Link (chapter 10) -/

/-- The result codes of Table 10-3. -/
inductive ResultCode where
  | ok | busy | notReady | configFault | role | badValue
  | vacant | standingDown | chainOpen | tableFull | driveBusy | alreadyHeld | notHeld | wrongPhase | notSenior
  | notSupervise | noItem | notPresented | wrongKind | seatOpen | listFull | notSupervised | notAssist
  deriving DecidableEq, Repr

/-- The reasons of a LOST notice (Table 4-3). -/
inductive LostReason where
  | seized | taken | lapsed | restarted | epoch
  deriving DecidableEq, Repr

/-- The causes of an ITEM_GONE notice (Table 5-4). -/
inductive GoneCause where
  | granted | withdrawn | expired | silent | displaced | declined
  deriving DecidableEq, Repr

/-- The causes of a GESTURE_FAILED notice (Table 5-4). -/
inductive GestureCause where
  | seatOpen | deadmanReleased | axesStale | axesNotNeutral | timeout | itemGone | itemChanged | standDown
  | chainOpen | tableFull | driveBusy
  deriving DecidableEq, Repr

/-- The reasons of a DECLINE that the Board sends by itself or for the operator (Table 2-5). -/
inductive DeclineReason where
  | operator | vacant | tableFull | boardFull
  deriving DecidableEq, Repr

/-- The reasons of a REFUSE (Table 2-5). -/
inductive RefuseReason where
  | taken | staleEpoch | notOffered | late | reserved | notHolder | badMode | badTarget | notSenior | moving
  | chainOpen | busyAssist
  deriving DecidableEq, Repr

/-- The notices of Table 10-6 with their contents. -/
inductive Notice where
  -- chair-side Authority Engine, Table 4-3
  | posture (p : Posture)
  | acquired (loader : Nat) (mode : Mode) (epoch : Epoch) (source : FrameKind)
  | refused (loader : Nat) (kind reason holder : Byte)
  | noAnswer (loader : Nat) (kind : OutKind)
  | handedOver (loader : Nat) (holder : Nat)
  | released (loader : Nat)
  | lost (loader : Nat) (holder : Nat) (reason : LostReason)
  | declined (loader : Nat) (target : Party) (reason : Byte)
  | offerExpired (loader : Nat) (target : Party)
  | suspended (loader : Nat) (mode : Mode) (reclaimSent : Bool)
  | assist (loader : Nat) (location : Half)
  | claimAbandoned (loader : Nat) (mode : Mode) (cause : ResultCode)
  | disowned (loader : Nat) (epoch : Epoch)
  -- Call Board, Table 5-4
  | boarded (loader : Nat) (kind : ItemKind) (mode : Mode)
  | presented (loader : Nat) (kind : ItemKind) (mode : Mode)
  | itemGone (loader : Nat) (kind : ItemKind) (cause : GoneCause) (presented : Bool)
  | taken (loader : Nat) (holder : Nat)
  | autoDeclined (loader : Nat) (offering : Nat) (reason : DeclineReason)
  | gestureDone (loader : Nat) (request : GestureRequest)
  | gestureFailed (loader : Nat) (request : GestureRequest) (cause : GestureCause)
  -- Freshness Monitor, Table 6-3
  | absent (loader : Nat) (age : Nat)
  | present (loader : Nat)
  -- Discrete Line Unit, Table 9-4
  | input (input : Input) (active : Bool)
  | latch (cause : Option StopCause)
  -- loader-side Authority Engine, R49
  | state (state : AuthState) (mode : Option Mode) (holder : Option Nat) (suspended : Bool) (epoch : Epoch)
      (incoming : Option Party)
  deriving DecidableEq, Repr

/-- The event flags of Table 10-7, in the order of their bits. -/
inductive EventFlag where
  | call | holdLost | stopSet | chainOpen | markDone | queueOverflow | txOverflow | lineBlocked | duplicateStation
  | linkError | configFault | coldStart
  deriving DecidableEq, Repr

/-- A message of the local link, without its start byte, length and check (R172). -/
structure Message where
  kind : Byte
  tag  : Byte
  body : List Byte
  deriving DecidableEq, Repr

/-- A response message made waiting: a part of the response in progress, or a BUSY answer (R174, R176). -/
inductive Waiting where
  | response (m : Message)
  | busy (m : Message)
  deriving DecidableEq, Repr

/-- What the transmitter is sending. -/
inductive TxWhat where
  | response | busy | notice | record
  deriving DecidableEq, Repr

/-- A message in its sending on LLTX, with the moment it began (R180). -/
structure Transmission where
  what    : TxWhat
  message : Message
  started : Nat
  deriving DecidableEq, Repr

/-- The receiver of R173. `last` is the moment of the last byte of the message under way; `got` are the bytes taken
after the length byte. -/
inductive Receiver where
  | hunt
  | length (last : Nat)
  | body (length : Nat) (got : List Byte) (last : Nat)
  deriving DecidableEq, Repr

/-- The machine controller's last report (R179): zone `none` is zone none. -/
structure Report where
  speed    : Half
  location : Half
  zone     : Option Nat
  arrived  : Nat
  deriving DecidableEq, Repr

/-- The two restarts a request can ask for (R178). -/
inductive RequestedRestart where
  | soft | full
  deriving DecidableEq, Repr

/-- The Local Link: the request slot (`slotBusy`), the parts of the response in progress that are not yet waiting
(`parts`), the waiting response messages and BUSY answers oldest first, the transmitter (`none` is idle), a restart
that begins when the response has been sent, the receiver, the notice queue with its credit, number and mark, the
command stream's unsent record and number, the last report, the counters, the event flags and their mask (bits of
Table 10-7), and the ATTN pin (`attn` is `true` while it is driven low). -/
structure Link where
  slotBusy       : Bool := false
  parts          : List Message := []
  waiting        : List Waiting := []
  tx             : Option Transmission := none
  restart        : Option RequestedRestart := none
  receiver       : Receiver := .hunt
  notices        : List Notice := []
  noticeOverflow : Nat := 0
  linkErrors     : Nat := 0
  credit         : Nat := 0
  noticeNumber   : Byte := 0
  recordNumber   : Byte := 0
  unsentRecord   : Option CommandRecord := none
  lastReport     : Option Report := none
  mark           : Option Nat := none
  flags          : Half := 0
  mask           : Half := 0
  attn           : Bool := false
  deriving DecidableEq, Repr

/-! ### Start-up and Configuration (chapter 11) -/

/-- The configuration condition (Table 11-1). -/
inductive Condition where
  | loading
  | running
  | faultHold
  deriving DecidableEq, Repr

/-- Where a configuration load stands (R190): none under way; reading the memory status after `tries` reads; waiting
5 ms to read it again; reading the settings block. -/
inductive LoadStep where
  | idle
  | readingStatus (tries : Nat)
  | waiting (tries : Nat) (dueAt : Nat)
  | readingBlock
  deriving DecidableEq, Repr

/-- The settings of one input: inversion and report type (R153). -/
structure InputSettings where
  inverted : Bool := false
  edge     : Bool := false
  deriving DecidableEq, Repr

/-- The settings of Table 11-2 after their clamps; the default values are the table's. `pools` has bit p − 1 set for
pool p. `seniorSet` holds the stations the four bytes name. -/
structure Settings where
  p          : Nat := 100
  l          : Nat := 6
  s          : Nat := 5
  tx         : Nat := 10
  tr         : Nat := 20
  g          : Nat := 3
  vmax       : Nat := 150
  vauto      : Nat := 200
  vrev       : Nat := 60
  vcrawl     : Nat := 30
  rup        : Nat := 20
  pools      : Byte := 1
  homePool   : Nat := 1
  senior     : Bool := false
  seniorSet  : List Nat := []
  stopchain  : InputSettings := {}
  seat       : InputSettings := {}
  deadman    : InputSettings := {}
  confirm    : InputSettings := {}
  deriving DecidableEq, Repr

/-- Start-up and Configuration: whether the supply is up, whether RESET holds the part, the hold of a power-on
restart, the strap values and settings of the last load, the condition and the load. Values before the first load: log
entries 5 and 6. -/
structure Startup where
  powered   : Bool := true
  resetLow  : Bool := false
  hold      : Option Nat := none
  role      : Role := .chair
  station   : Nat := 0
  settings  : Settings := {}
  condition : Condition := .loading
  load      : LoadStep := .idle
  deriving DecidableEq, Repr

/-! ### The whole part -/

/-- The state of the part. `pending` is the queue of commands that wait, first in first out, and `now` the model's
clock: both are the model's own (log entries 1 and 35). -/
structure State where
  pending   : List Instr := []
  now       : Nat := 0
  startup   : Startup := {}
  liu       : Liu := {}
  record    : Record := {}
  monitor   : Monitor := {}
  envelope  : Envelope := {}
  relay     : Relay := {}
  holds     : Holds := {}
  board     : Board := {}
  discrete  : Discrete := {}
  link      : Link := {}
  deriving DecidableEq, Repr

/-- The part right after reset: the supply has just risen through 2.9 V (R194). Every block stands as a power-on
restart sets it, the stop latch is clear (R161), COLD_START is the one event flag raised (R188) and calls for the
attached computer's notice (R187), and the 20 ms hold runs, after which the first configuration load begins. -/
def State.reset : State :=
  { startup := { hold := some (ms 20) }
    link := { flags := 0x0800, attn := true } }

/-- FAULTS. No command of this block stops the machine with a fault: the manual gives every event and every request an
effect or says that it changes nothing. The type is therefore empty. -/
inductive Fault where
  deriving DecidableEq, Repr

/-- REFUSALS. Only `exec` would raise one, in the arm of a command with no meaning; there is none. Safe: the machine
stops where the hardware goes on. -/
inductive Refusal where
  /-- The command has no meaning in the model yet. Safe. -/
  | notModelled (mnemonic : String)
  deriving DecidableEq, Repr

end Sys2Proof.Machine
end

