-- ==== Sys2Proof/Machine/Flags.lean ====
section
/-!
DEFINITION. The event flags, their mask and the attention condition (section 10.6, Table 10-7), as operations on the
Local Link's own state.
-/

namespace Sys2Proof.Machine

/-- Table 10-7: the bit of a flag. -/
def EventFlag.bit : EventFlag → Nat
  | .call => 0 | .holdLost => 1 | .stopSet => 2 | .chainOpen => 3 | .markDone => 4 | .queueOverflow => 5
  | .txOverflow => 6 | .lineBlocked => 7 | .duplicateStation => 8 | .linkError => 9 | .configFault => 10
  | .coldStart => 11

/-- The flag set that names one flag. -/
def EventFlag.set (f : EventFlag) : Half := 1#16 <<< f.bit

/-- The bits of Table 10-7 that name a flag: 0 to 11. -/
def allFlags : Half := 0x0FFF

/-- Table 10-7: the maskable flags, all but STOP_SET and CHAIN_OPEN. -/
def maskableFlags : Half := 0x0FF3

/-- Whether a flag is raised. -/
def Link.raised (f : EventFlag) (k : Link) : Bool := k.flags.getLsbD f.bit

/-- R187: the attention condition: a raised flag that is not masked. STOP_SET and CHAIN_OPEN are never in the mask
that is judged. -/
def Link.attention (k : Link) : Bool := k.flags &&& ~~~(k.mask &&& maskableFlags) != 0#16

/-- R160, R187: the ATTN pin judged afresh. -/
def Link.judgeAttn (k : Link) : Link := { k with attn := k.attention }

/-- R185: an event raises its flag; ATTN is judged. -/
def Link.raise (f : EventFlag) (k : Link) : Link := { k with flags := k.flags ||| f.set }.judgeAttn

/-- R186: the named flags are cleared, CONFIG_FAULT excepted while `keepFault` holds (FAULT-HOLD); ATTN is judged. -/
def Link.clearFlags (named : Half) (keepFault : Bool) (k : Link) : Link :=
  { k with flags := k.flags &&& ~~~(if keepFault then named &&& ~~~EventFlag.configFault.set else named) }.judgeAttn

/-- R187: the mask becomes the named maskable flags; ATTN is judged. -/
def Link.setMask (named : Half) (k : Link) : Link := { k with mask := named &&& maskableFlags }.judgeAttn

end Sys2Proof.Machine
end

