-- ==== Sys2Proof/Config.lean ====
section
/-!
DEFINITION. What a part is built with: its fixed sizes and times, its identity, and the three values the manual leaves
open, as constants with no body (log entries 7, 8 and 38).
-/

namespace Sys2Proof

/-- FREE VALUE (log entry 7). The raw number the access draw generator of a station gives at its n-th draw since the
last restart. R17 says only that the draws come from a generator seeded from the strapped station number; the draw
itself is this number modulo the window, so it lies in the range R17 gives whatever the generator is. -/
opaque Config.accessDraw (station n : Nat) : Nat

/-- FREE VALUE (log entry 8). The mode a chair takes from a GRANT or a STATUS whose mode byte is neither 1 nor 2. No
rule gives one; no loader unit sends such a frame about a holder. -/
opaque Config.unnamedMode (code : Byte) : Mode

/-- FREE VALUE (log entry 38). The response kind of a request whose kind byte is 80h or more: Table 10-2 gives the
request's kind plus 80h, which does not fit one byte, and no rule gives the byte that is sent. -/
opaque Config.wideResponseKind (kind : Byte) : Byte

/-- R177: the part code that READ_IDENTITY reports. -/
def Config.partCode : Half := 0x5324
/-- R177: the revision that READ_IDENTITY reports. -/
def Config.revision : Byte := 1

/-- R1: the key-up lead, 4 ms. -/
def Config.keyUpLead : Nat := ms 4
/-- R16: the quiet gap, 3 ms. -/
def Config.gap : Nat := ms 3
/-- R17: one slot of the random wait, 2 ms. -/
def Config.slot : Nat := ms 2
/-- R20: the line-blocked time, 2 s. -/
def Config.lineBlocked : Nat := sec 2
/-- R17: the largest access window. -/
def Config.maxWindow : Nat := 32
/-- R2: the bytes the receive buffer stores. -/
def Config.rxBufferSize : Nat := 26
/-- R12: the slots of class S. -/
def Config.slotsS : Nat := 2
/-- R12: the slots of class A. -/
def Config.slotsA : Nat := 8
/-- R12: the slots of class C. -/
def Config.slotsC : Nat := 6
/-- R45: the assist repeat time, 2 s. -/
def Config.assistRepeat : Nat := sec 2
/-- R86: the refresh time of an assist item, 6 s. -/
def Config.assistRefresh : Nat := sec 6
/-- R55: the entries of the Hold Table. -/
def Config.tableSize : Nat := 6
/-- R83: the items of the Call Board. -/
def Config.boardSize : Nat := 8
/-- R58: the copies of an outstanding frame that are sent. -/
def Config.maxAttempts : Nat := 4
/-- R154: the sample period, 5 ms. -/
def Config.samplePeriod : Nat := ms 5
/-- R159: one phase of the flashing indicator, 500 ms. -/
def Config.flashPhase : Nat := ms 500
/-- R167: the entries of the stop list. -/
def Config.stopListSize : Nat := 32
/-- R182: the notices the notice queue holds. -/
def Config.noticeQueueSize : Nat := 32
/-- R176: the bytes of contents that one response message carries. -/
def Config.responsePart : Nat := 30
/-- R173: the longest pause between two bytes of a message, 2 ms. -/
def Config.interByte : Nat := ms 2
/-- R194: the hold of a power-on restart, 20 ms. -/
def Config.powerOnHold : Nat := ms 20
/-- R194: the shortest low pulse of RESET that restarts the part, 10 µs. -/
def Config.resetPulse : Nat := 10
/-- R190: the wait before the memory status is read again, 5 ms. -/
def Config.memoryRetry : Nat := ms 5
/-- R190: the status reads a load makes before it fails. -/
def Config.memoryTries : Nat := 10

end Sys2Proof
end

