-- ==== Sys2Proof/WellFormed.lean ====
section
/-!
DEFINITION. Which commands are well formed. A request's body may hold any bytes (the block that carries it out judges
them), so a request is always well formed; the checks are on the operands that name a loader's timer, on the length of
the settings block, on the kind of an unknown request and on the inputs that have a filter.
-/

namespace Sys2Proof

/-- A loader's station number, 1 to 63 (00_scope.md, 1.8). -/
def isStation (b : Byte) : Bool := decide (1 ≤ b.toNat ∧ b.toNat ≤ 63)

/-- The request codes of Table 10-4. -/
def requestCodes : List Byte :=
  [0x01, 0x02, 0x03, 0x04, 0x05, 0x06, 0x07,
   0x10, 0x11, 0x12, 0x13, 0x14, 0x15, 0x16, 0x17, 0x18, 0x19, 0x1A, 0x1B, 0x1C, 0x1D, 0x1E, 0x1F, 0x20, 0x21, 0x22,
   0x30, 0x31, 0x32, 0x33, 0x34]

/-- Well-formed commands. -/
def Instr.wellFormed : Instr → Bool
  | .answerDeadlineExpiry l    => isStation l
  | .offerDeadlineExpiry l     => isStation l
  | .itemDeadlineExpiry l      => isStation l
  | .absenceDeadlineExpiry l   => isStation l
  | .superviseDeadlineExpiry l => isStation l
  | .settingsBlockRead block   => block.length == 50
  | .unknownRequestKind k _    => !(requestCodes.contains k)
  | .lcdRise | .receptionComplete | .gapMet | .waitExpiry | .keyUpLeadExpiry | .sendingComplete
  | .lineBlockedExpiry | .transferDeadlineExpiry | .reclaimDeadlineExpiry | .assistRepeatExpiry
  | .statusTimerExpiry | .assistRaise .. | .assistCancel .. | .readRecord .. | .standUp .. | .standDown ..
  | .claim .. | .setMode .. | .offer .. | .withdraw .. | .release .. | .seize .. | .pause .. | .resume ..
  | .readHolds .. | .acceptItem .. | .declineItem .. | .dismissItem .. | .readBoard .. | .gestureWindowExpiry
  | .lapseTimerExpiry | .envelopeIntervalExpiry | .axes .. | .driveIntervalExpiry | .filteredEdge ..
  | .indicatorFlash | .localStop .. | .stopListDue | .stop .. | .stopAll .. | .clear .. | .localMessageDiscarded
  | .interByteTimeout | .requestWhileBusy .. | .readIdentity .. | .readCounters .. | .readFlags .. | .setMask ..
  | .addCredit .. | .mark .. | .restartSoft .. | .restartFull .. | .report .. | .messageSent .. | .powerOn
  | .powerOnHoldExpiry .. | .supplyFall | .resetFallFor .. | .resetRise .. | .memoryStatusRead .. | .memoryRetryExpiry
  | .lrxdByteReceived .. | .llrxByteReceived .. | .inputSample .. => true

end Sys2Proof
end

