-- ==== Sys2Proof/Machine/Operands.lean ====
section
/-!
DEFINITION. The codes and layouts of the fields that frames, messages and the settings block carry: one-byte and
two-byte fields, signed fields, the check of R4, Tables 2-1 to 2-5 for frames, and Tables 10-1 to 10-6 for messages.
-/

namespace Sys2Proof.Machine

/-! ### Bytes and halves (section 1.8: high byte first; signed fields two's complement) -/

/-- A number as one byte. -/
def byte (n : Nat) : Byte := BitVec.ofNat 8 n

/-- A half as two bytes, high byte first. -/
def bytesOfHalf (h : Half) : List Byte := [h.extractLsb' 8 8, h.extractLsb' 0 8]

/-- A number as a two-byte field. -/
def bytesOfNat16 (n : Nat) : List Byte := bytesOfHalf (BitVec.ofNat 16 n)

/-- Two bytes, high byte first, as a half. -/
def halfOf (hi lo : Byte) : Half := hi ++ lo

/-- Yes and no as 1 and 0 (R172). -/
def byteOfBool (b : Bool) : Byte := if b then 1 else 0

/-- A signed number as one byte. -/
def byteOfInt (i : Int) : Byte := BitVec.ofInt 8 i

/-- A signed number as two bytes. -/
def bytesOfInt16 (i : Int) : List Byte := bytesOfHalf (BitVec.ofInt 16 i)

/-- Clamping to a range, inclusive at both ends. -/
def clampInt (lo hi x : Int) : Int := max lo (min x hi)

/-- Clamping to a range, inclusive at both ends. -/
def clampNat (lo hi x : Nat) : Nat := max lo (min x hi)

/-! ### The check (R4) -/

/-- `n` shifts of the check register: polynomial x^16 + x^12 + x^5 + 1. -/
def crcShift : Nat → Half → Half
  | 0, c => c
  | n + 1, c => crcShift n (if c.msb then (c <<< 1) ^^^ 0x1021#16 else c <<< 1)

/-- One byte enters the register, most significant bit first. -/
def crcByte (c : Half) (b : Byte) : Half := crcShift 8 (c ^^^ (b.setWidth 16 <<< 8))

/-- R4: the check over bytes in the order they are sent, from a register preset to all ones. -/
def crc16 (bs : List Byte) : Half := bs.foldl crcByte 0xFFFF#16

/-- The check as it is sent, high byte first. -/
def checkBytes (bs : List Byte) : List Byte := bytesOfHalf (crc16 bs)

/-! ### Modes, parties, states (section 2.3) -/

/-- A mode's code: 1 DRIVE, 2 SUPERVISE. -/
def modeCode : Mode → Byte
  | .drive => 1
  | .supervise => 2

/-- A mode or none: 0 for none. -/
def modeCode? : Option Mode → Byte
  | none => 0
  | some m => modeCode m

/-- The mode a byte names, if it names one. -/
def modeOf? (b : Byte) : Option Mode :=
  if b = 1 then some .drive else if b = 2 then some .supervise else none

/-- The mode a chair takes from a GRANT or STATUS: the mode the byte names, and a free value where it names none
(log entry 8). -/
def modeTaken (b : Byte) : Mode := (modeOf? b).getD (Config.unnamedMode b)

/-- A station or pool as a destination or target: 64 + p for pool p. -/
def Party.code : Party → Nat
  | .station n => n
  | .pool p => 64 + p

/-- The party a destination or target names: 65 to 72 name pools 1 to 8. -/
def Party.ofCode (c : Nat) : Party := if 64 < c then .pool (c - 64) else .station c

/-- The STATUS code of a state (Table 3-1). -/
def AuthState.code : AuthState → Byte
  | .free => 0 | .held => 1 | .transfer => 2 | .assist => 3 | .orphan => 4

/-- Table 2-2: the code of a frame kind. -/
def FrameKind.code : FrameKind → Byte
  | .drive => 0x11 | .supervise => 0x12 | .status => 0x13
  | .offer => 0x21 | .withdraw => 0x22 | .accept => 0x23 | .decline => 0x24 | .claim => 0x25 | .seize => 0x26
  | .release => 0x27 | .grant => 0x28 | .refuse => 0x29 | .assistCall => 0x2A
  | .stop => 0x31 | .clear => 0x32

/-- Table 2-2: the kind a code names, if it names one. -/
def FrameKind.ofCode? (b : Byte) : Option FrameKind :=
  [FrameKind.drive, .supervise, .status, .offer, .withdraw, .accept, .decline, .claim, .seize, .release, .grant,
    .refuse, .assistCall, .stop, .clear].find? (fun k => k.code = b)

/-- Table 2-2: the class of a kind. -/
def FrameKind.frameClass : FrameKind → FrameClass
  | .drive | .supervise | .status => .c
  | .offer | .withdraw | .accept | .decline | .claim | .seize | .release | .grant | .refuse | .assistCall => .a
  | .stop | .clear => .s

/-- Table 2-2: the body length of a kind. -/
def FrameKind.bodyLength : FrameKind → Nat
  | .drive => 6 | .supervise => 1 | .status => 10
  | .offer => 3 | .withdraw => 0 | .accept => 1 | .decline => 1 | .claim => 1 | .seize => 1 | .release => 0
  | .grant => 3 | .refuse => 3 | .assistCall => 2
  | .stop => 1 | .clear => 0

/-- R12: the access window a frame of a class begins with. -/
def FrameClass.window : FrameClass → Nat
  | .s => 1
  | .a => 4
  | .c => 8

/-- Whether the first class is above the second: S above A above C. -/
def FrameClass.above : FrameClass → FrameClass → Bool
  | .s, .a | .s, .c | .a, .c => true
  | _, _ => false

/-! ### Building and reading frames (Table 2-1) -/

/-- A frame as a sending block gives it: the window is its class's (R12). -/
def TxFrame.make (kind : FrameKind) (dest loader : Nat) (epoch : Epoch) (body : List Byte)
    (owner : FrameOwner := .plain) : TxFrame :=
  { kind, dest, loader, epoch, body, window := kind.frameClass.window, owner }

/-- R3: the bytes of a frame with the source, sequence, body length and check filled. -/
def TxFrame.bytes (source : Nat) (sequence : Byte) (f : TxFrame) : List Byte :=
  let head := [f.kind.code, byte source, byte f.dest, byte f.loader] ++ bytesOfHalf f.epoch ++
    [sequence, byte f.kind.bodyLength] ++ f.body
  head ++ checkBytes head

/-- A byte of a received frame's body. -/
def RxFrame.at (f : RxFrame) (i : Nat) : Byte := f.body.getD i 0

/-- A two-byte field of a received frame's body. -/
def RxFrame.halfAt (f : RxFrame) (i : Nat) : Half := halfOf (f.at i) (f.at (i + 1))

/-- The mode byte of a CLAIM, SEIZE, ACCEPT or OFFER (Table 2-4). -/
def RxFrame.mode? (f : RxFrame) : Option Mode := modeOf? (f.at 0)

/-- R8: the receive check on the stored bytes and the count of bytes received; the tests are made in the rule's order
(length, check, kind, header fields), and a frame that fails any of them gives none. -/
def receiveCheck (buffer : List Byte) (count : Nat) : Option RxFrame :=
  let n := (buffer.getD 7 0).toNat
  if count < 10 ∨ 16 < n ∨ count ≠ 10 + n then none
  else if checkBytes (buffer.take (8 + n)) ≠ (buffer.drop (8 + n)).take 2 then none
  else match FrameKind.ofCode? (buffer.getD 0 0) with
    | none => none
    | some kind =>
      let source := (buffer.getD 1 0).toNat
      let dest := (buffer.getD 2 0).toNat
      let loader := (buffer.getD 3 0).toNat
      if n ≠ kind.bodyLength then none
      else if source = 0 ∨ 63 < source ∨ dest = 64 ∨ 72 < dest ∨ 63 < loader then none
      else some
        { kind, source, dest, loader
          epoch := halfOf (buffer.getD 4 0) (buffer.getD 5 0)
          seq := buffer.getD 6 0
          body := (buffer.drop 8).take n }

/-! ### Reason codes (Table 2-5) -/

/-- The reason codes of DECLINE. -/
def DeclineReason.code : DeclineReason → Byte
  | .operator => 1 | .vacant => 2 | .tableFull => 3 | .boardFull => 4

/-- The reason codes of REFUSE. -/
def RefuseReason.code : RefuseReason → Byte
  | .taken => 1 | .staleEpoch => 2 | .notOffered => 3 | .late => 4 | .reserved => 5 | .notHolder => 6 | .badMode => 7
  | .badTarget => 8 | .notSenior => 9 | .moving => 10 | .chainOpen => 11 | .busyAssist => 12

/-- STOP reason OPERATOR. -/
def stopOperator : Byte := 1
/-- STOP reason CHAIN. -/
def stopChainReason : Byte := 2
/-- STOP reason SEAT. -/
def stopSeat : Byte := 3
/-- STOP reason ALL. -/
def stopAllReason : Byte := 4

/-- The frame kind of an outstanding frame. -/
def OutKind.frameKind : OutKind → FrameKind
  | .claim => .claim | .seize => .seize | .accept => .accept | .release => .release

/-! ### Codes of the local link (R172, Tables 10-3 to 10-6; log entry 13) -/

/-- Table 10-3. -/
def ResultCode.code : ResultCode → Byte
  | .ok => 0 | .busy => 1 | .notReady => 2 | .configFault => 3 | .role => 4 | .badValue => 5
  | .vacant => 16 | .standingDown => 17 | .chainOpen => 18 | .tableFull => 19 | .driveBusy => 20 | .alreadyHeld => 21
  | .notHeld => 22 | .wrongPhase => 23 | .notSenior => 24 | .notSupervise => 25 | .noItem => 26 | .notPresented => 27
  | .wrongKind => 28 | .seatOpen => 29 | .listFull => 30 | .notSupervised => 31 | .notAssist => 32

/-- R51: ACTIVE, STANDING_DOWN, VACANT, numbered from 1. -/
def Posture.code : Posture → Byte
  | .active => 1 | .standingDown => 2 | .vacant => 3

/-- R56: the phases numbered from 1. -/
def Phase.code : Phase → Byte
  | .acquiring .. => 1 | .held .. => 2 | .offering .. => 3 | .releasing .. => 4 | .suspended => 5

/-- R56: the origins numbered from 1. -/
def Origin.code : Origin → Byte
  | .new => 1 | .modeChange _ => 2 | .reclaim => 3

/-- Table 4-3: the reasons of LOST numbered from 1. -/
def LostReason.code : LostReason → Byte
  | .seized => 1 | .taken => 2 | .lapsed => 3 | .restarted => 4 | .epoch => 5

/-- Table 5-4: the causes of ITEM_GONE numbered from 1. -/
def GoneCause.code : GoneCause → Byte
  | .granted => 1 | .withdrawn => 2 | .expired => 3 | .silent => 4 | .displaced => 5 | .declined => 6

/-- Table 5-4: the causes of GESTURE_FAILED numbered from 1. -/
def GestureCause.code : GestureCause → Byte
  | .seatOpen => 1 | .deadmanReleased => 2 | .axesStale => 3 | .axesNotNeutral => 4 | .timeout => 5 | .itemGone => 6
  | .itemChanged => 7 | .standDown => 8 | .chainOpen => 9 | .tableFull => 10 | .driveBusy => 11

/-- R98: 1 ACCEPT_ITEM, 2 CLAIM, 3 RECLAIM, 4 SET_MODE. -/
def GestureRequest.code : GestureRequest → Byte
  | .acceptItem => 1 | .claim => 2 | .reclaim => 3 | .setMode => 4

/-- R98: the Board owns the gesture of an item acceptance, the Engine the others. -/
def GestureRequest.ofBoard : GestureRequest → Bool
  | .acceptItem => true
  | .claim | .reclaim | .setMode => false

/-- Table 5-1: the level of an item, which numbers its kind as well. -/
def ItemKind.level : ItemKind → Nat
  | .namedOffer _ => 1 | .assist .. => 2 | .poolOffer .. => 3

/-- The offering station of an offer item. -/
def ItemKind.offering? : ItemKind → Option Nat
  | .namedOffer n => some n | .assist .. => none | .poolOffer n _ => some n

/-- The pool of a pool offer or an assist item. -/
def ItemKind.pool? : ItemKind → Option Nat
  | .namedOffer _ => none | .assist p _ => some p | .poolOffer _ p => some p

/-- The location tag of an assist item. -/
def ItemKind.location? : ItemKind → Option Half
  | .assist _ t => some t | .namedOffer _ | .poolOffer .. => none

/-- The offering station or location tag that a BOARDED or PRESENTED notice carries. -/
def ItemKind.detail : ItemKind → List Byte
  | .namedOffer n | .poolOffer n _ => [byte n]
  | .assist _ t => bytesOfHalf t

/-- R153: the inputs numbered from 1. -/
def inputCode : Input → Byte
  | .stopchain => 1 | .seat => 2 | .deadman => 3 | .confirm => 4

/-- R161: the reason byte of a LATCH notice. -/
def StopCause.reason : StopCause → Byte
  | .frame r _ => r | .localChain => 1 | .localStop => 2 | .duplicate => 3

/-- R161: the setter of a cause; 0 for a local one. -/
def StopCause.setter : StopCause → Nat
  | .frame _ n => n | .localChain | .localStop | .duplicate => 0

/-- Table 10-6: the code of a notice. -/
def Notice.code : Notice → Byte
  | .posture .. => 0x40 | .acquired .. => 0x41 | .refused .. => 0x42 | .noAnswer .. => 0x43 | .handedOver .. => 0x44
  | .released .. => 0x45 | .lost .. => 0x46 | .declined .. => 0x47 | .offerExpired .. => 0x48 | .suspended .. => 0x49
  | .assist .. => 0x4A | .claimAbandoned .. => 0x4B | .disowned .. => 0x4C
  | .boarded .. => 0x50 | .presented .. => 0x51 | .itemGone .. => 0x52 | .taken .. => 0x53 | .autoDeclined .. => 0x54
  | .gestureDone .. => 0x55 | .gestureFailed .. => 0x56
  | .absent .. => 0x58 | .present .. => 0x59
  | .input .. => 0x5C | .latch .. => 0x5D
  | .state .. => 0x60

/-- The body of a notice: the contents its table lists, in that order, coded by R172 (log entry 13). -/
def Notice.body : Notice → List Byte
  | .posture p => [p.code]
  | .acquired l m e src => [byte l, modeCode m] ++ bytesOfHalf e ++ [src.code]
  | .refused l k r h => [byte l, k, r, h]
  | .noAnswer l k => [byte l, k.frameKind.code]
  | .handedOver l h => [byte l, byte h]
  | .released l => [byte l]
  | .lost l h r => [byte l, byte h, r.code]
  | .declined l t r => [byte l, byte t.code, r]
  | .offerExpired l t => [byte l, byte t.code]
  | .suspended l m sent => [byte l, modeCode m, byteOfBool sent]
  | .assist l t => byte l :: bytesOfHalf t
  | .claimAbandoned l m c => [byte l, modeCode m, c.code]
  | .disowned l e => byte l :: bytesOfHalf e
  | .boarded l k m => [byte l, byte k.level, modeCode m] ++ k.detail
  | .presented l k m => [byte l, byte k.level, modeCode m] ++ k.detail
  | .itemGone l k c p => [byte l, byte k.level, c.code, byteOfBool p]
  | .taken l h => [byte l, byte h]
  | .autoDeclined l o r => [byte l, byte o, r.code]
  | .gestureDone l r => [byte l, r.code]
  | .gestureFailed l r c => [byte l, r.code, c.code]
  | .absent l a => byte l :: bytesOfNat16 (min a 65535)
  | .present l => [byte l]
  | .input i a => [inputCode i, if a then 1 else 2]
  | .latch none => [0, 0, 0]
  | .latch (some c) => [1, c.reason, byte c.setter]
  | .state st m h sus e inc =>
      [st.code, modeCode? m, byte (h.getD 0), byteOfBool sus] ++ bytesOfHalf e ++
        [byte ((inc.map Party.code).getD 0)]

/-- Table 10-5: the body of a command record. -/
def CommandRecord.body (r : CommandRecord) : List Byte :=
  [modeCode? r.mode, byteOfInt r.steer] ++ bytesOfInt16 r.travel ++
    [byteOfInt r.boom, byteOfInt r.bucket, byte r.cap, byteOfBool r.continueOk, byteOfBool r.motion,
      (match r.freshness with | .new => 1 | .repeated => 2), 0]

/-- Table 10-1: the bytes of a message as they go out on LLTX. -/
def Message.bytes (m : Message) : List Byte :=
  let head := [byte (2 + m.body.length), m.kind, m.tag] ++ m.body
  0xA5 :: head ++ checkBytes head

/-- Table 10-2: a response carries the request's kind plus 80h. For a kind of 80h or more the sum does not fit the byte,
and the kind of the response is a free value (log entry 38). -/
def responseKind (kind : Byte) : Byte := if kind.toNat < 0x80 then kind + 0x80 else Config.wideResponseKind kind

/-- R176: the response messages of a response: a result code, the remaining byte, and the contents cut into parts of
30 bytes; a response without contents is one message of two body bytes. -/
def responseMessages (kind tag : Byte) (code : ResultCode) (contents : List Byte) : List Message :=
  let n := (contents.length - 1) / Config.responsePart
  (List.range (n + 1)).map fun i =>
    { kind := responseKind kind, tag
      body := [code.code, byte (n - i)] ++
        (contents.drop (Config.responsePart * i)).take Config.responsePart }

/-- A field that may be absent: its presence mark, then its bytes, or zeros of the same number (R172). -/
def marked (size : Nat) (present : Bool) (bytes : List Byte) : List Byte :=
  byteOfBool present :: (if present then bytes else List.replicate size 0)

/-- A one-byte field with its presence mark. -/
def marked1 (b : Option Byte) : List Byte := marked 1 b.isSome [b.getD 0]

/-- A two-byte field with its presence mark. -/
def marked2 (h : Option Half) : List Byte := marked 2 h.isSome (bytesOfHalf (h.getD 0))

end Sys2Proof.Machine
end

