-- ==== Sys2Proof/Machine/Ops.lean ====
section
/-!
DEFINITION. The operations every block shares: the clock, the settings read as times, giving a frame to the Line
Interface Unit (R12 to R17), the Local Link's transmitter, notices, command records and responses (R174 to R184), and
reading the Hold Table, the Call Board and the discrete inputs.
-/

namespace Sys2Proof.Machine

/-! ### Clock, role and settings -/

/-- A timed operation ends at its moment, or now if that moment has passed (log entry 2). -/
def State.reach (due : Nat) (s : State) : State := { s with now := max s.now due }

/-- R2, R173, R188, R194: the part receives on its two links: the supply is up, RESET does not hold the part and no
power-on hold runs (log entry 18). -/
def State.inService (s : State) : Bool :=
  s.startup.powered && !s.startup.resetLow && s.startup.hold.isNone

/-- R21, Table 11-1: the LIU and the blocks are active in a part in service whose condition is RUNNING. -/
def State.active (s : State) : Bool := s.inService && decide (s.startup.condition = .running)

/-- Active, in the given role. -/
def State.activeAs (r : Role) (s : State) : Bool := s.active && decide (s.startup.role = r)

/-- The strapped station number as read at the last load. -/
def State.station (s : State) : Nat := s.startup.station

/-- The settings in force. -/
def State.settings (s : State) : Settings := s.startup.settings

/-- `n` drive periods, n × P. -/
def State.periods (n : Nat) (s : State) : Nat := ms (n * s.settings.p)

/-- R27: the status period, S × P. -/
def State.statusPeriod (s : State) : Nat := ms (s.settings.s * s.settings.p)

/-- R114: the absence time, 3 × S × P. -/
def State.absenceTime (s : State) : Nat := ms (3 * s.settings.s * s.settings.p)

/-- R108, R112: the lapse limit of a hold's mode: L × P in DRIVE, 4 × L × P in SUPERVISE. -/
def State.lapseLimit (m : Mode) (s : State) : Nat :=
  match m with
  | .drive => ms (s.settings.l * s.settings.p)
  | .supervise => ms (4 * s.settings.l * s.settings.p)

/-- R36, R64, R85: an expiry field clamped to 1–300 and then the lesser of x × 100 ms and Tx. -/
def State.offerSpan (expiry : Half) (s : State) : Nat :=
  min (ms (100 * clampNat 1 300 expiry.toNat)) (sec s.settings.tx)

/-- Whole milliseconds from a moment to now, any fraction dropped (R121). -/
def State.msSince (t : Nat) (s : State) : Nat := (s.now - t) / 1000

/-- Whole milliseconds from now to a deadline, 0 when it has passed. -/
def State.msUntil (t : Nat) (s : State) : Nat := (t - s.now) / 1000

/-- The time remaining to a deadline, in milliseconds, as a two-byte field. -/
def State.remaining (deadline : Nat) (s : State) : Half := BitVec.ofNat 16 (min (s.msUntil deadline) 65535)

/-- Whether a pool is in the chair's configured pool set (Table 11-2). -/
def State.inPools (pool : Nat) (s : State) : Bool := s.settings.pools.getLsbD (pool - 1)

/-! ### The transmit queue and channel access (sections 2.5 and 2.6) -/

/-- R12: the head of the queue. -/
def Liu.head? (q : Liu) : Option TxFrame := (q.classS ++ q.classA ++ q.classC).head?

/-- Whether the queue holds no frame. -/
def Liu.queueEmpty (q : Liu) : Bool := (q.classS ++ q.classA ++ q.classC).isEmpty

/-- R12: the queue without its head. -/
def Liu.dropHead (q : Liu) : Liu :=
  match q.classS, q.classA with
  | _ :: rest, _ => { q with classS := rest }
  | [], _ :: rest => { q with classA := rest }
  | [], [] => { q with classC := q.classC.tail }

/-- R17: the head's window is doubled, up to 32. -/
def TxFrame.doubleWindow (f : TxFrame) : TxFrame := { f with window := min Config.maxWindow (2 * f.window) }

/-- R17: the candidate, which is the head (log entry 9), has its window doubled. -/
def Liu.doubleHead (q : Liu) : Liu :=
  match q.classS, q.classA, q.classC with
  | f :: rest, _, _ => { q with classS := f.doubleWindow :: rest }
  | [], f :: rest, _ => { q with classA := f.doubleWindow :: rest }
  | [], [], f :: rest => { q with classC := f.doubleWindow :: rest }
  | [], [], [] => q

/-- R17: entering WAIT: the head is the candidate, k is drawn from 0 to W − 1 and a wait of k slots of 2 ms starts.
With no frame in the queue access is IDLE. -/
def Liu.enterWait (now station : Nat) (q : Liu) : Liu :=
  match q.head? with
  | none => { q with access := .idle }
  | some f =>
    { q with
      access := .wait (now + Config.slot * (Config.accessDraw station q.draws % f.window))
      draws := q.draws + 1 }

/-- R16: entering GAP: a gap that is met already takes access on to WAIT at once. -/
def Liu.enterGap (now station : Nat) (q : Liu) : Liu :=
  if q.lcd = false ∧ q.gapFrom + Config.gap ≤ now then q.enterWait now station else { q with access := .gap }

/-- R16, R17: what channel access does when a frame of class `joined` has joined the queue, whose head before was of class
`before`: in IDLE it enters GAP; in WAIT a frame of a class above the candidate's calls for a new draw. -/
def Liu.onJoin (now station : Nat) (before : Option FrameClass) (joined : FrameClass) (q : Liu) : Liu :=
  match q.access with
  | .idle => q.enterGap now station
  | .wait _ =>
    match before with
    | some b => if joined.above b then q.enterWait now station else q
    | none => q.enterWait now station
  | .gap | .sending _ => q

/-- R14: class A without its oldest ASSIST_CALL, if it holds one. -/
def removeOldestAssistCall : List TxFrame → Option (List TxFrame)
  | [] => none
  | f :: rest => if f.kind = .assistCall then some rest else (removeOldestAssistCall rest).map (f :: ·)

/-- R15: whether an unsent frame is replaced by a newcomer: same kind and same loader field. -/
def TxFrame.sameSlot (f g : TxFrame) : Bool := decide (f.kind = g.kind ∧ f.loader = g.loader)

/-- R15: the newcomer takes the place and the window of the frame it replaces. -/
def replaceInPlace (f : TxFrame) : List TxFrame → List TxFrame
  | [] => []
  | g :: rest => if g.sameSlot f then { f with window := g.window } :: rest else g :: replaceInPlace f rest

/-- R13 to R15: a frame given to the active LIU. `true` says that it was dropped for want of room. -/
def Liu.give (now station : Nat) (f : TxFrame) (q : Liu) : Liu × Bool :=
  let before := q.head?.map fun h => h.kind.frameClass
  match f.kind.frameClass with
  | .s =>
    if q.classS.length < Config.slotsS then
      ({ q with classS := q.classS ++ [f] }.onJoin now station before .s, false)
    else (q, true)
  | .a =>
    if q.classA.length < Config.slotsA then
      ({ q with classA := q.classA ++ [f] }.onJoin now station before .a, false)
    else
      match removeOldestAssistCall q.classA with
      | some rest => ({ q with classA := rest ++ [f] }.onJoin now station before .a, false)
      | none => (q, true)
  | .c =>
    if q.classC.any (·.sameSlot f) then ({ q with classC := replaceInPlace f q.classC }, false)
    else if q.classC.length < Config.slotsC then
      ({ q with classC := q.classC ++ [f] }.onJoin now station before .c, false)
    else ({ q with classC := q.classC.tail ++ [f] }.onJoin now station before .c, false)

/-- R13, R14, R21: a block gives a frame to the LIU. While the LIU is inactive the frame is discarded without a flag;
a frame dropped for want of room raises TX_OVERFLOW. -/
def State.give (f : TxFrame) (s : State) : State :=
  if s.active then
    match s.liu.give s.now s.station f with
    | (q, false) => { s with liu := q }
    | (q, true) => { s with liu := q, link := s.link.raise .txOverflow }
  else s

/-- Whether a frame given now would be dropped for want of room (R57, R64). -/
def State.wouldDrop (f : TxFrame) (s : State) : Bool := (s.liu.give s.now s.station f).2

/-! ### The transmitter, notices, records and responses (chapter 10) -/

/-- R180, R181, R184: an idle transmitter starts the first of the messages waiting: the unsent record, the oldest
waiting response message, the head of the notice queue when the credit is above 0. A transmitter that is sending is
left alone. -/
def Link.start (now : Nat) (k : Link) : Link :=
  match k.tx with
  | some _ => k
  | none =>
    match k.unsentRecord with
    | some r =>
      { k with
        unsentRecord := none
        recordNumber := k.recordNumber + 1
        tx := some ⟨.record, ⟨0x70, k.recordNumber, r.body⟩, now⟩ }
    | none =>
      match k.waiting with
      | .response m :: rest => { k with waiting := rest, tx := some ⟨.response, m, now⟩ }
      | .busy m :: rest => { k with waiting := rest, tx := some ⟨.busy, m, now⟩ }
      | [] =>
        match k.notices with
        | n :: rest =>
          if 0 < k.credit then
            { k with
              notices := rest
              credit := k.credit - 1
              noticeNumber := k.noticeNumber + 1
              tx := some ⟨.notice, ⟨n.code, k.noticeNumber, n.body⟩, now⟩ }
          else k
        | [] => k

/-- Whether a notice is a STATE notice. -/
def Notice.isState : Notice → Bool
  | .state .. => true
  | _ => false

/-- R182: an unsent STATE notice is replaced in place. -/
def replaceState (n : Notice) : List Notice → List Notice
  | [] => []
  | m :: rest => if m.isState then n :: rest else m :: replaceState n rest

/-- R182: placing a posted notice: a STATE replaces an unsent STATE; otherwise the notice joins a queue with room, and
a full queue drops it, raises QUEUE_OVERFLOW and moves the notice-overflow counter, which saturates at 255. -/
def Link.placeNotice (n : Notice) (k : Link) : Link :=
  if n.isState ∧ k.notices.any Notice.isState then { k with notices := replaceState n k.notices }
  else if k.notices.length < Config.noticeQueueSize then { k with notices := k.notices ++ [n] }
  else { k with noticeOverflow := min 255 (k.noticeOverflow + 1) }.raise .queueOverflow

/-- R182, R180: a block posts a notice; an idle transmitter may start it. -/
def State.post (n : Notice) (s : State) : State := { s with link := (s.link.placeNotice n).start s.now }

/-- R185: a block raises an event flag. -/
def State.raise (f : EventFlag) (s : State) : State := { s with link := s.link.raise f }

/-- R152, R184: the Relay's record becomes the last record and the unsent record; an idle transmitter starts it. -/
def State.giveRecord (r : CommandRecord) (s : State) : State :=
  { s with
    relay := { s.relay with lastRecord := r }
    link := Link.start s.now { s.link with unsentRecord := some r } }

/-- What a block answers to a request: a result code and contents. -/
structure Answer where
  code     : ResultCode
  contents : List Byte := []
  deriving DecidableEq, Repr

/-- R174, R176: the response to the request that has just made the slot busy: its first message waits, the others
follow it one by one. -/
def State.respond (kind tag : Byte) (a : Answer) (s : State) : State :=
  match responseMessages kind tag a.code a.contents with
  | [] => s
  | m :: rest =>
    { s with link := Link.start s.now { s.link with parts := rest, waiting := s.link.waiting ++ [.response m] } }

/-- Whether a BUSY answer waits unsent (R174). -/
def Link.busyWaits (k : Link) : Bool := k.waiting.any fun w => match w with | .busy _ => true | .response _ => false

/-- R174: a request that arrives while the slot is busy: answered BUSY when no BUSY answer waits unsent, otherwise
discarded with LINK_ERROR raised (log entry 17). -/
def State.answerBusy (kind tag : Byte) (s : State) : State :=
  if s.link.busyWaits then s.raise .linkError
  else
    { s with
      link := Link.start s.now { s.link with
        waiting := s.link.waiting ++ [.busy ⟨responseKind kind, tag, [ResultCode.busy.code, 0]⟩] } }

/-- Which roles a request belongs to (Table 10-4): `none` for a common one. -/
abbrev RequestRole := Option Role

/-- R175: the checks 1 to 4 of a request of the given kind: BAD_VALUE when `fits` says that the kind or the body length
is wrong, NOT_READY while loading, CONFIG_FAULT in FAULT-HOLD but for READ_IDENTITY, READ_FLAGS and RESTART, and ROLE. -/
def State.requestCheck (kind : Byte) (fits : Bool) (role : RequestRole) (s : State) : Option ResultCode :=
  if fits = false then some .badValue
  else if s.startup.condition = .loading then some .notReady
  else if s.startup.condition = .faultHold ∧ kind ≠ 0x01 ∧ kind ≠ 0x02 ∧ kind ≠ 0x07 then some .configFault
  else if role.isSome ∧ role ≠ some s.startup.role then some .role
  else none

/-- R173 to R175: a request has arrived, its check agreeing, and reaches the request slot. A request that passes the
checks is carried out by `act`, which gives its answer; one that does not changes nothing and is answered with the
check's code. While the Local Link is out of service nothing is received. -/
def State.request (kind tag : Byte) (fits : Bool) (role : RequestRole) (act : State → State × Answer) (s : State) :
    State :=
  if s.inService = false then s
  else
    let s := { s with link := { s.link with receiver := .hunt } }
    if s.link.slotBusy then s.answerBusy kind tag
    else
      let s := { s with link := { s.link with slotBusy := true } }
      match s.requestCheck kind fits role with
      | some code => s.respond kind tag { code }
      | none =>
        let (t, a) := act s
        t.respond kind tag a

/-! ### Reading the Hold Table, the Call Board and the inputs -/

/-- The Hold Table entry for a loader. -/
def State.entry? (loader : Nat) (s : State) : Option Entry := s.holds.entries.find? (·.loader = loader)

/-- R11: a loader is held when the Hold Table has an entry for it. -/
def State.isHeld (loader : Nat) (s : State) : Bool := (s.entry? loader).isSome

/-- The Call Board item for a loader. -/
def State.item? (loader : Nat) (s : State) : Option Item := s.board.items.find? (·.loader = loader)

/-- R11: a loader is boarded when the Call Board has an item for it. -/
def State.isBoarded (loader : Nat) (s : State) : Bool := (s.item? loader).isSome

/-- The presented item (R84). -/
def State.presented? (s : State) : Option Item := s.board.items.find? (·.presented)

/-- The DRIVE entry; the Command Relay reads the entries in table order (R55, R139, log entry 26). -/
def State.driveEntry? (s : State) : Option Entry := s.holds.entries.find? (·.mode = .drive)

/-- Whether an entry other than that of `loader` has mode DRIVE (R61). -/
def State.otherDrive (loader : Nat) (s : State) : Bool :=
  s.holds.entries.any fun e => decide (e.mode = .drive ∧ e.loader ≠ loader)

/-- STOPCHAIN reads closed. -/
def State.chainClosed (s : State) : Bool := s.discrete.stopchain.active

/-- R97: the latest axes are stale: none since the last restart, or older than 3 × P. -/
def State.axesStale (s : State) : Bool :=
  match s.relay.axes with
  | none => true
  | some a => decide (s.periods 3 < s.now - a.arrived)

/-- R97: the latest axes are neutral: each of 5 or less in absolute value. -/
def Axes.neutral (a : Axes) : Bool :=
  decide (a.steer.natAbs ≤ 5 ∧ a.travel.natAbs ≤ 5 ∧ a.boom.natAbs ≤ 5 ∧ a.bucket.natAbs ≤ 5)

/-- R97: whether there are latest axes and they are neutral. -/
def State.axesNeutral (s : State) : Bool := (s.relay.axes.map Axes.neutral).getD false

/-- R51: the result code that names a posture other than ACTIVE. -/
def Posture.refusal : Posture → Option ResultCode
  | .active => none
  | .standingDown => some .standingDown
  | .vacant => some .vacant

/-- The entry of a loader changed by `f`; the other entries and the order stay. -/
def State.mapEntry (loader : Nat) (f : Entry → Entry) (s : State) : State :=
  { s with holds := { s.holds with
      entries := s.holds.entries.map fun e => if e.loader = loader then f e else e } }

end Sys2Proof.Machine
end

