-- ==== Sys2Proof/Machine/Monitor.lean ====
section
/-!
DEFINITION. The Freshness Monitor aboard a loader (sections 6.1 to 6.3): the link figure and the alert, the age, the
tests of a holder frame, its take, the scoring of a slot, and what a grant does to the Monitor.
-/

namespace Sys2Proof.Machine

/-- R110: the link figure Q, the slots of the window scored 1. -/
def Monitor.linkFigure (m : Monitor) : Nat := m.window.count true

/-- Whether the hold view has a current holder in mode DRIVE (R109, R110). -/
def Monitor.driveHold (m : Monitor) : Bool := m.view.holder.isSome && decide (m.view.mode = some .drive)

/-- R110: the alert: a current holder in DRIVE and the three newest slots all 0. -/
def Monitor.alert (m : Monitor) : Bool := m.driveHold && (m.window.reverse.take 3).all (!·)

/-- R108: the age in whole milliseconds, given while the hold view has a current holder. -/
def State.age? (s : State) : Option Nat :=
  if s.monitor.view.holder.isSome then s.monitor.lastHolderAt.map (s.msSince ·) else none

/-- 00_scope.md 1.8, R106: newer: the difference modulo 256 lies in 1 to 127. -/
def seqNewer (new last : Byte) : Bool := decide (1 ≤ (new - last).toNat ∧ (new - last).toNat ≤ 127)

/-- R106: the sequence test. A remembered sequence taken more than 16 × P before now counts as absent. -/
def State.passesSequence (seq : Byte) (s : State) : Bool :=
  match s.monitor.remembered with
  | none => true
  | some r => decide (s.periods 16 < s.now - r.taken) || seqNewer seq r.seq

/-- R105: whether a DRIVE or SUPERVISE frame is a good holder frame, by the five tests against the hold view. -/
def State.isGoodFrame (f : RxFrame) (s : State) : Bool :=
  let v := s.monitor.view
  decide (v.state ≠ .free ∧ v.state ≠ .orphan) &&
  decide (v.holder = some f.source) &&
  decide (v.mode = some (if f.kind = .drive then .drive else .supervise)) &&
  decide (f.epoch = v.epoch) &&
  s.passesSequence f.seq

/-- R107: what the take of a good holder frame sets in the Monitor. -/
def State.monitorTake (f : RxFrame) (s : State) : State :=
  { s with monitor := { s.monitor with
      lastHolderAt := some s.now
      remembered := some ⟨f.seq, s.now⟩
      openMark := s.monitor.openMark || decide (f.kind = .drive)
      lapse := some (s.now + s.lapseLimit (if f.kind = .drive then .drive else .supervise)) } }

/-- R109: the slot an interval expiry ends is scored in a DRIVE hold; the mark is cleared in every case. -/
def State.scoreSlot (s : State) : State :=
  { s with monitor := { s.monitor with
      window := if s.monitor.driveHold then s.monitor.window.drop 1 ++ [s.monitor.openMark] else s.monitor.window
      openMark := false } }

/-- R111: what a grant does to the Monitor beyond its hold view: the window, the mark and the remembered sequence are
cleared; a grant to a station starts the age and the lapse timer for the new mode, a grant to none ends both. -/
def State.monitorGrant (mode : Option Mode) (s : State) : State :=
  { s with monitor := { s.monitor with
      window := List.replicate 8 false
      openMark := false
      remembered := none
      lastHolderAt := mode.map fun _ => s.now
      lapse := mode.map fun m => s.now + s.lapseLimit m } }

end Sys2Proof.Machine
end

