-- ==== Sys2Proof/Machine/Envelope.lean ====
section
/-!
DEFINITION. The Speed Envelope Unit (chapter 7): the stages of the speed cap, each a whole-number computation, and the
two kinds of evaluation.
-/

namespace Sys2Proof.Machine

/-- The two kinds of evaluation (section 7.6). -/
inductive Evaluation where
  | interval
  | lowering
  deriving DecidableEq, Repr

/-- R123: stage 1, the link term. -/
def linkTerm (vmax q : Nat) : Nat := vmax * q / 8

/-- R124: stage 2, the age term, with Tf, Tl and the age in milliseconds. -/
def ageTerm (tf tl vq age : Nat) : Nat :=
  if age ≤ tf then vq else if age < tl then vq * (tl - age) / (tl - tf) else 0

/-- R125: stage 3 of a DRIVE hold, the alert term. -/
def alertTerm (alert : Bool) (vcrawl va : Nat) : Nat := if alert then min va vcrawl else va

/-- R127: stage 3 of a SUPERVISE hold. -/
def superviseTerm (vauto p age : Nat) (permit : Bool) : Nat := if age ≤ 8 * p ∧ permit then vauto else 0

/-- R128: stage 4, the phase term. -/
def phaseTerm (state : AuthState) (vcrawl vb : Nat) : Nat := if state = .transfer then min vb vcrawl else vb

/-- R129: the last REPORT is fresh: it arrived no more than 10 × P before now. -/
def State.reportFresh (r : Report) (s : State) : Bool := decide (s.now - r.arrived ≤ s.periods 10)

/-- R129: stage 5, the zone term. -/
def State.zoneTerm (vp : Nat) (s : State) : Nat :=
  match s.link.lastReport with
  | none => vp
  | some r =>
    if s.reportFresh r then
      match r.zone with
      | none => vp
      | some z => min vp z
    else min vp s.settings.vcrawl

/-- R130: stage 6, the rise limit. -/
def riseLimit (e : Evaluation) (rup prev vz : Nat) : Nat :=
  match e with
  | .interval => min vz (prev + rup)
  | .lowering => min vz prev

/-- R122 to R127: the result Vb of stage 3 on the path of the hold view's mode. While there is no age the term is 0:
there is no current holder then, and the override rules. -/
def State.holdTerm (s : State) : Nat :=
  match s.monitor.view.mode, s.age? with
  | some .drive, some age =>
    alertTerm s.monitor.alert s.settings.vcrawl
      (ageTerm (2 * s.settings.p) (s.settings.l * s.settings.p) (linkTerm s.settings.vmax s.monitor.linkFigure) age)
  | some .supervise, some age => superviseTerm s.settings.vauto s.settings.p age s.envelope.permit
  | _, _ => 0

/-- R130: the override: FREE, ORPHAN or ASSIST, the latch set, or STOPCHAIN open. -/
def State.overridden (s : State) : Bool :=
  decide (s.monitor.view.state ≠ .held ∧ s.monitor.view.state ≠ .transfer) || s.discrete.latch.isSome ||
    !s.chainClosed

/-- R122 to R130: the result C of an evaluation. -/
def State.capOf (e : Evaluation) (s : State) : Nat :=
  if s.overridden then 0
  else
    riseLimit e s.settings.rup s.envelope.cap
      (s.zoneTerm (phaseTerm s.monitor.view.state s.settings.vcrawl s.holdTerm))

/-- R119 to R131: an evaluation makes its result the cap in force. -/
def State.evaluate (e : Evaluation) (s : State) : State :=
  { s with envelope := { s.envelope with cap := s.capOf e } }

end Sys2Proof.Machine
end

