-- ==== Sys2Proof/Machine/Relay.lean ====
section
/-!
DEFINITION. The Command Relay (chapter 8): at a chair, the clamped axes and the DRIVE and SUPERVISE frames; aboard a
loader, the command records and the events that give them. The commands of the chapter stand at the end.
-/

namespace Sys2Proof.Machine

/-! ### The loader side (sections 8.3 and 8.4) -/

/-- The state part of the record. -/
def Authority.state : Authority → AuthState
  | .free => .free | .held .. => .held | .transfer .. => .transfer | .assist .. => .assist | .orphan .. => .orphan

/-- R150: the zeroing condition: the record FREE or ORPHAN, the latch set, or STOPCHAIN open. -/
def State.zeroing (s : State) : Bool :=
  decide (s.record.auth.state = .free ∨ s.record.auth.state = .orphan) || s.discrete.latch.isSome || !s.chainClosed

/-- R150: the zeroed record. -/
def zeroedRecord (f : Freshness) : CommandRecord := { freshness := f }

/-- R145: the continue field: a SUPERVISE hold in HELD or TRANSFER, the permit yes, the age 8 × P or less. -/
def State.continueField (s : State) : Bool :=
  decide (s.relay.view.mode = some .supervise) &&
  decide (s.relay.view.state = .held ∨ s.relay.view.state = .transfer) && s.envelope.permit &&
  (match s.age? with | some age => decide (age ≤ 8 * s.settings.p) | none => false)

/-- R146 step 2, R148: a travel demand clamped to the range from −min(C, Vrev) to +C. -/
def State.clampTravel (x : Int) (s : State) : Int :=
  clampInt (-(min s.envelope.cap s.settings.vrev : Nat)) (s.envelope.cap : Nat) x

/-- R146: the NEW record of a good DRIVE frame, outside the zeroing condition. -/
def State.driveRecord (f : RxFrame) (s : State) : CommandRecord :=
  let steer := clampInt (-100) 100 (f.at 0).toInt
  let travel := clampInt (-250) 250 (f.halfAt 1).toInt
  let boom := clampInt (-100) 100 (f.at 3).toInt
  let bucket := clampInt (-100) 100 (f.at 4).toInt
  let deadman := (f.at 5).getLsbD 0
  let stale := (f.at 5).getLsbD 1
  let seat := (f.at 5).getLsbD 2
  { mode := some .drive
    steer
    travel := if deadman && !stale && seat then s.clampTravel travel else 0
    boom := if deadman then boom else 0
    bucket := if deadman then bucket else 0
    cap := s.envelope.cap
    continueOk := false
    motion := s.discrete.motionEnable
    freshness := .new }

/-- R147: the NEW record of a good SUPERVISE frame, outside the zeroing condition. -/
def State.superviseRecord (s : State) : CommandRecord :=
  { mode := some .supervise
    cap := s.envelope.cap
    continueOk := s.continueField
    motion := s.discrete.motionEnable
    freshness := .new }

/-- R148: the age has passed Tf (or there is none to judge). -/
def State.agePastFresh (s : State) : Bool :=
  match s.age? with
  | some age => decide (2 * s.settings.p < age)
  | none => true

/-- R148: the REPEAT record built from the last record, outside the zeroing condition. -/
def State.repeatRecord (s : State) : CommandRecord :=
  let last := s.relay.lastRecord
  { mode := last.mode
    steer := last.steer
    travel := if s.agePastFresh then 0 else s.clampTravel last.travel
    boom := if s.agePastFresh then 0 else last.boom
    bucket := if s.agePastFresh then 0 else last.bucket
    cap := s.envelope.cap
    continueOk := s.continueField
    motion := s.discrete.motionEnable
    freshness := .repeated }

/-- R149: the neutral record of a grant. -/
def State.neutralRecord (mode : Option Mode) (s : State) : CommandRecord :=
  { mode, motion := s.discrete.motionEnable }

/-- R146, R147, R150: the record built at the take of a good holder frame is given and the taken mark is set. -/
def State.relayTake (f : RxFrame) (s : State) : State :=
  let record :=
    if s.zeroing then zeroedRecord .new
    else if f.kind = .drive then s.driveRecord f
    else s.superviseRecord
  { s with relay := { s.relay with taken := true } }.giveRecord record

/-- R149: at a grant the neutral record, or the zeroed record while the zeroing condition holds, replaces the last
record and is given; the taken mark is cleared. -/
def State.relayGrant (mode : Option Mode) (s : State) : State :=
  { s with relay := { s.relay with taken := false } }.giveRecord
    (if s.zeroing then zeroedRecord .repeated else s.neutralRecord mode)

/-- R150: the zeroed record is given at an event that R150 lists. -/
def State.giveZeroed (s : State) : State := s.giveRecord (zeroedRecord .repeated)

/-- R151: outside the zeroing condition, a REPEAT record is given when a lowering evaluation has left the cap below the
cap the last record carries, or when MOTION_ENABLE has changed since `before` other than by the rise that ends the
zeroing condition. -/
def State.relayLowered (s before : State) : State :=
  if s.zeroing then s
  else if s.envelope.cap < s.relay.lastRecord.cap ∨
      (s.discrete.motionEnable ≠ before.discrete.motionEnable ∧
        ¬ (before.zeroing = true ∧ s.discrete.motionEnable = true)) then
    s.giveRecord s.repeatRecord
  else s

/-- R148, R151: the Relay at an interval expiry, after the scoring and the interval evaluation: with the taken mark
clear a REPEAT record (the zeroed one in the zeroing condition); with it set, a REPEAT record only when the cap has
fallen below the last record's outside the zeroing condition. The mark is then cleared. -/
def State.relayInterval (s : State) : State :=
  let t :=
    if s.relay.taken then
      if s.zeroing = false ∧ s.envelope.cap < s.relay.lastRecord.cap then s.giveRecord s.repeatRecord else s
    else s.giveRecord (if s.zeroing then zeroedRecord .repeated else s.repeatRecord)
  { t with relay := { t.relay with taken := false } }

/-- R109, R120, R148: the expiry of the envelope interval: the timer is started again, the slot is scored, the cap is
evaluated with the rise limit of an interval, and the Relay acts. -/
def State.envelopeInterval (due : Nat) (s : State) : State :=
  let s := s.reach due
  let s := { s with envelope := { s.envelope with timer := some (s.now + s.periods 1) } }
  (s.scoreSlot.evaluate .interval).relayInterval

/-- ENVELOPE_INTERVAL_EXPIRY (R120). -/
def execEnvelopeIntervalExpiry (s : State) : Host.Outcome State Fault Refusal :=
  .next <|
    match s.activeAs .loader, s.envelope.timer with
    | true, some due => s.envelopeInterval due
    | _, _ => s

/-! ### The chair side (sections 8.1 and 8.2) -/

/-- R138: the latest axes from an AXES request, clamped, with the moment of arrival. -/
def axesOf (steer : Byte) (travel : Half) (boom bucket : Byte) (now : Nat) : Axes :=
  { steer := clampInt (-100) 100 steer.toInt
    travel := clampInt (-250) 250 travel.toInt
    boom := clampInt (-100) 100 boom.toInt
    bucket := clampInt (-100) 100 bucket.toInt
    arrived := now }

/-- R138: AXES is carried out: the latest axes are replaced whole. -/
def State.takeAxes (steer : Byte) (travel : Half) (boom bucket : Byte) (s : State) : State × Answer :=
  ({ s with relay := { s.relay with axes := some (axesOf steer travel boom bucket s.now) } }, { code := .ok })

/-- AXES (R138). -/
def execAxes (tag steer : Byte) (travel : Half) (boom bucket : Byte) (s : State) :
    Host.Outcome State Fault Refusal :=
  .next (s.request 0x10 tag true (some .chair) (State.takeAxes steer travel boom bucket))

/-- The flags byte of a DRIVE frame (Table 2-3). -/
def driveFlags (deadman stale seat : Bool) : Byte :=
  byteOfBool deadman ||| (byteOfBool stale <<< 1) ||| (byteOfBool seat <<< 2)

/-- A DRIVE frame for an entry (R140, R141). -/
def driveFrame (e : Entry) (steer travel boom bucket : Int) (flags : Byte) : TxFrame :=
  TxFrame.make .drive e.loader e.loader e.epoch
    ([byteOfInt steer] ++ bytesOfInt16 travel ++ [byteOfInt boom, byteOfInt bucket, flags])

/-- R140: the DRIVE frame of an entry in HELD or OFFERING, from the axes and the inputs of the moment. -/
def State.buildDrive (e : Entry) (s : State) : TxFrame :=
  let seat := s.discrete.seat.active
  let flags := driveFlags s.discrete.deadman.active s.axesStale seat
  match s.axesStale, s.relay.axes with
  | false, some a => driveFrame e a.steer (if seat then a.travel else 0) a.boom a.bucket flags
  | _, _ => driveFrame e 0 0 0 0 flags

/-- R141: the neutral DRIVE frame of an entry in RELEASING. -/
def State.neutralDrive (e : Entry) (s : State) : TxFrame :=
  driveFrame e 0 0 0 0 (driveFlags false false s.discrete.seat.active)

/-- R139: what the drive interval expiry gives for the DRIVE entry. -/
def State.driveInterval (due : Nat) (s : State) : State :=
  let s := s.reach due
  let s := { s with relay := { s.relay with driveTimer := some (s.now + s.periods 1) } }
  match s.driveEntry? with
  | none => s
  | some e =>
    match e.phase with
    | .held _ | .offering _ => s.give (s.buildDrive e)
    | .releasing _ => s.give (s.neutralDrive e)
    | .acquiring .. | .suspended => s

/-- DRIVE_INTERVAL_EXPIRY (R139). -/
def execDriveIntervalExpiry (s : State) : Host.Outcome State Fault Refusal :=
  .next <|
    match s.activeAs .chair, s.relay.driveTimer with
    | true, some due => s.driveInterval due
    | _, _ => s

/-- The SUPERVISE frame of an entry (R142). -/
def superviseFrame (e : Entry) : TxFrame :=
  TxFrame.make .supervise e.loader e.loader e.epoch [byteOfBool e.continueOk]

/-- Whether an entry has a supervise deadline: mode SUPERVISE in HELD or OFFERING (R142). -/
def Entry.supervised (e : Entry) : Bool :=
  decide (e.mode = .supervise) &&
  (match e.phase with
   | .held _ | .offering _ => true
   | .acquiring .. | .releasing _ | .suspended => false)

/-- R142: the supervise deadline of an entry that has none to keep is discarded. -/
def Entry.settleSupervise (e : Entry) : Entry := if e.supervised then e else { e with supervise := none }

/-- R142: a SUPERVISE frame for a loader's entry, with the deadline started afresh for 4 × P, when the entry has mode
SUPERVISE in HELD or OFFERING. -/
def State.giveSupervise (loader : Nat) (s : State) : State :=
  match s.entry? loader with
  | none => s
  | some e =>
    if e.supervised then
      (s.give (superviseFrame e)).mapEntry loader
        fun e => { e with supervise := some (s.now + s.periods 4) }
    else s

/-- SUPERVISE_DEADLINE_EXPIRY (R142). -/
def execSuperviseDeadlineExpiry (loader : Byte) (s : State) : Host.Outcome State Fault Refusal :=
  .next <|
    match s.activeAs .chair, (s.entry? loader.toNat).bind (·.supervise) with
    | true, some due => (s.reach due).giveSupervise loader.toNat
    | _, _ => s

end Sys2Proof.Machine
end

