-- ==== Sys2Proof/Machine/Record.lean ====
section
/-!
DEFINITION. The Authority Record's shared operations (chapter 3): reading it, the STATUS frame and the STATE notice, what
a change of the record tells the other blocks, the grant, and the stop latch with motion enable and the indicator
(chapter 9), which the Engine and the Discrete Line Unit share.
-/

namespace Sys2Proof.Machine

/-! ### Reading the record (Table 3-2) -/

/-- The mode of the record, absent in FREE. -/
def Authority.mode? : Authority → Option Mode
  | .free => none
  | .held _ m _ => some m
  | .transfer _ m _ => some m
  | .assist .. => some .supervise
  | .orphan _ m _ => some m

/-- The holder, suspended or not; absent in FREE. -/
def Authority.holder? : Authority → Option Nat
  | .free => none
  | .held h _ _ => some h
  | .transfer h _ _ => some h
  | .assist h _ _ => some h
  | .orphan h _ _ => some h

/-- The current holder: the holder when it is not suspended. -/
def Authority.current? : Authority → Option Nat
  | .free => none
  | .held h _ _ => some h
  | .transfer h _ _ => some h
  | .assist h _ _ => some h
  | .orphan .. => none

/-- The suspended mark: in ORPHAN and in no other state. -/
def Authority.suspended : Authority → Bool
  | .orphan .. => true
  | .free | .held .. | .transfer .. | .assist .. => false

/-- The incoming field, present in TRANSFER. -/
def Authority.incoming? : Authority → Option Incoming
  | .transfer _ _ i => some i
  | .free | .held .. | .assist .. | .orphan .. => none

/-- R48: the view of the hold that the Engine gives its neighbours. -/
def Record.view (r : Record) : HoldView :=
  { holder := r.auth.current?, mode := r.auth.mode?, epoch := r.epoch, state := r.auth.state }

/-- R48: the Engine informs the Freshness Monitor and the Command Relay. -/
def State.inform (s : State) : State :=
  { s with
    monitor := { s.monitor with view := s.record.view }
    relay := { s.relay with view := s.record.view } }

/-! ### Motion enable and the indicator (R158, R159, R166) -/

/-- R166: the condition of MOTION_ENABLE. -/
def State.motionCondition (s : State) : Bool :=
  s.activeAs .loader && s.record.auth.current?.isSome && s.discrete.latch.isNone && s.chainClosed

/-- R166: motion enable is re-judged. -/
def State.judgeMotion (s : State) : State :=
  { s with discrete := { s.discrete with motionEnable := s.motionCondition } }

/-- R159: the loader's indicator on entering a state: steady in HELD, flashing from lit in TRANSFER and ASSIST, dark in
FREE and ORPHAN. -/
def State.showState (s : State) : State :=
  { s with discrete := { s.discrete with
      indicator := decide (s.record.auth.state ≠ .free ∧ s.record.auth.state ≠ .orphan)
      flash :=
        if s.record.auth.state = .transfer ∨ s.record.auth.state = .assist then some (s.now + Config.flashPhase)
        else none } }

/-! ### STATUS and the STATE notice (R27, R28, R33, R49) -/

/-- R33: standstill: a last REPORT of speed −1, 0 or +1 that arrived no more than 10 × P before now. -/
def State.standstill (s : State) : Bool :=
  match s.link.lastReport with
  | none => false
  | some r => decide (-1 ≤ r.speed.toInt ∧ r.speed.toInt ≤ 1) && decide (s.now - r.arrived ≤ s.periods 10)

/-- The flags byte of a STATUS (Table 2-3). -/
def statusFlags (suspended latched alert standstill assist : Bool) : Byte :=
  byteOfBool suspended ||| (byteOfBool latched <<< 1) ||| (byteOfBool alert <<< 2) |||
    (byteOfBool standstill <<< 3) ||| (byteOfBool assist <<< 4)

/-- R28: the body of a STATUS as it stands now. The link figure and the alert of R118 go out here alone: no message of the
local link carries them at a loader (DESIGN CHOICE, log entry 40). -/
def State.statusBody (s : State) : List Byte :=
  [s.record.auth.state.code, modeCode? s.record.auth.mode?, byte (s.record.auth.holder?.getD 0),
    byte ((s.record.auth.incoming?.map (·.party.code)).getD 0), byte s.envelope.cap] ++
  bytesOfHalf ((s.link.lastReport.map (·.speed)).getD 0) ++
  [byte s.monitor.linkFigure,
    statusFlags s.record.auth.suspended s.discrete.latch.isSome s.monitor.alert s.standstill
      (decide (s.record.auth.state = .assist)),
    byte ((s.discrete.latch.map StopCause.setter).getD 0)]

/-- R27, R28: the Engine gives a STATUS to the LIU. -/
def State.sendStatus (s : State) : State :=
  s.give (TxFrame.make .status 0 s.station s.record.epoch s.statusBody .status)

/-- R49: the STATE notice as the record stands, without the link figure and the alert (log entry 40). -/
def State.stateNotice (s : State) : Notice :=
  .state s.record.auth.state s.record.auth.mode? s.record.auth.holder? s.record.auth.suspended s.record.epoch
    (s.record.auth.incoming?.map (·.party))

/-- R49: the Engine posts a STATE notice. -/
def State.postState (s : State) : State := s.post s.stateNotice

/-! ### Changes of the record -/

/-- R27, R49: a change that leaves the state as it was (a re-offer): STATUS and STATE notice. -/
def State.announce (s : State) : State := s.sendStatus.postState

/-- A change of the record's state that is not a grant (R27, R48, R49, R131, R151, R159, R166): the record becomes
`auth`, the neighbours are informed, motion enable is re-judged, a lowering evaluation is made, the Relay gives the
zeroed record on entering ORPHAN and otherwise acts by R151, the indicator follows, and STATUS and STATE notice go
out. -/
def State.changeState (auth : Authority) (s : State) : State :=
  let t := { s with record := { s.record with auth } }.inform.judgeMotion.evaluate .lowering
  let t := if auth.state = .orphan then t.giveZeroed else t.relayLowered s
  t.showState.announce

/-- R25: the record after a grant to a station and mode, or to none. -/
def Record.grant (target : Option (Nat × Mode)) (r : Record) : Record :=
  let epoch := r.epoch + 1
  { r with
    auth := match target with | some (n, m) => .held n m none | none => .free
    epoch
    lastGrant := some
      { epoch, holder := target.map Prod.fst, mode := target.map Prod.snd, previous := r.auth.holder? } }

/-- R26, R31: the GRANT frame that announces a last grant. -/
def State.sendGrant (g : Grant) (s : State) : State :=
  s.give (TxFrame.make .grant 0 s.station g.epoch
    [byte (g.holder.getD 0), modeCode? g.mode, byte (g.previous.getD 0)])

/-- R25, R26, R111, R126, R132, R149, R159, R166: the grant. The record changes; the Monitor is told and clears its
window; the permit becomes no; motion enable is re-judged; the lowering evaluation is made; the Relay gives the neutral
record; the indicator follows; GRANT goes out before STATUS; and a STATE notice is posted. -/
def State.makeGrant (target : Option (Nat × Mode)) (s : State) : State :=
  let record := s.record.grant target
  let t := ({ s with record }.inform.monitorGrant (target.map Prod.snd))
  let t := { t with envelope := { t.envelope with permit := false } }
  let t := (t.judgeMotion.evaluate .lowering).relayGrant (target.map Prod.snd)
  let t := t.showState
  (match record.lastGrant with | some g => t.sendGrant g | none => t).announce

/-! ### The stop latch (section 9.3) -/

/-- R162, R163, R150: an event sets the stop latch. A set latch keeps its first cause. STOP_SET is raised, motion
enable is re-judged, one lowering evaluation is made, and a STATUS goes out; a setting that finds the latch clear also
gives the zeroed record and posts a LATCH notice. -/
def State.setLatch (cause : StopCause) (s : State) : State :=
  let t := { s with discrete := { s.discrete with latch := some (s.discrete.latch.getD cause) } }
  let t := ((t.raise .stopSet).judgeMotion).evaluate .lowering
  if s.discrete.latch.isNone then t.giveZeroed.sendStatus.post (.latch (some cause)) else t.sendStatus

/-- R164: the latch is cleared, STATUS goes out, a LATCH notice is posted and motion enable is re-judged. -/
def State.clearLatch (s : State) : State :=
  let t := { s with discrete := { s.discrete with latch := none } }.judgeMotion
  t.sendStatus.post (.latch none)

end Sys2Proof.Machine
end

