-- ==== Sys2Proof/Machine/CallBoard.lean ====
section
/-!
DEFINITION. The Call Board (chapter 5): presentation, boarding, removal, the gesture's ends, and the frames the LIU
gives the Board. The operator's answers and the completion of a gesture stand in Acceptance.lean.
-/

namespace Sys2Proof.Machine

/-! ### The gesture's arming and ends (section 5.5) -/

/-- R98: a request arms the gesture, with the window of G seconds. -/
def State.armGesture (request : GestureRequest) (loader : Nat) (s : State) : State :=
  { s with board := { s.board with gesture := some ⟨loader, request, s.now + sec s.settings.g⟩ } }

/-- R100: an armed gesture ends with GESTURE_FAILED and a cause. -/
def State.failGesture (cause : GestureCause) (s : State) : State :=
  match s.board.gesture with
  | none => s
  | some g =>
    { s with board := { s.board with gesture := none } }.post (.gestureFailed g.loader g.request cause)

/-- Whether a gesture of the Board is armed for a loader's item. -/
def State.boardGesture (loader : Nat) (s : State) : Bool :=
  match s.board.gesture with
  | some g => g.request.ofBoard && decide (g.loader = loader)
  | none => false

/-! ### Presentation (R83, R84) -/

/-- The first of the items of a level, in arrival order. -/
def firstOfLevel (level : Nat) (items : List Item) : Option Item := items.find? (·.kind.level = level)

/-- R83: the first item in the order of presentation: lowest level first, oldest first within a level. -/
def firstItem (items : List Item) : Option Item :=
  (firstOfLevel 1 items).or ((firstOfLevel 2 items).or (firstOfLevel 3 items))

/-- R101: the items in the order of presentation, the presented one first. -/
def presentationOrder (items : List Item) : List Item :=
  let rest := items.filter (!·.presented)
  items.filter (·.presented) ++ rest.filter (·.kind.level = 1) ++ rest.filter (·.kind.level = 2) ++
    rest.filter (·.kind.level = 3)

/-- R84, R102: a PRESENTED notice is posted and CALL is raised. -/
def State.announceItem (i : Item) (s : State) : State :=
  (s.post (.presented i.loader i.kind i.mode)).raise .call

/-- The items with the item of `i`'s loader marked presented. -/
def markPresented (i : Item) (items : List Item) : List Item :=
  items.map fun j => if j.loader = i.loader then { j with presented := true } else j

/-- R84: when the Board holds items and none is presented, the first in the order of presentation becomes presented;
the indicator is lit while an item is presented and dark when the Board is empty. -/
def State.present (s : State) : State :=
  let t :=
    if (s.presented?).isSome then s
    else
      match firstItem s.board.items with
      | none => s
      | some i => State.announceItem i { s with board := { s.board with items := markPresented i s.board.items } }
  { t with discrete := { t.discrete with indicator := !t.board.items.isEmpty } }

/-! ### Removal (section 5.3) -/

/-- What a removal posts before the gesture ends and the next item is presented (R89, R90): nothing, ITEM_GONE, or for
a GRANT about the presented item TAKEN. -/
inductive Farewell where
  | silent
  | gone (cause : GoneCause)
  | granted (holder : Nat)
  deriving DecidableEq, Repr

/-- The notice of a removal (R89, R90). -/
def Farewell.notice? (i : Item) : Farewell → Option Notice
  | .silent => none
  | .gone c => some (.itemGone i.loader i.kind c i.presented)
  | .granted h =>
    some (if i.presented then .taken i.loader h else .itemGone i.loader i.kind .granted false)

/-- Posting a notice, if there is one. -/
def State.post? (n : Option Notice) (s : State) : State :=
  match n with
  | none => s
  | some n => s.post n

/-- R89: the item of a loader leaves the Board: its notice is posted, a gesture of the Board armed for it ends with
ITEM_GONE, and a new presentation is made or the indicator turned off. -/
def State.removeItem (loader : Nat) (farewell : Farewell) (s : State) : State :=
  match s.item? loader with
  | none => s
  | some i =>
    let t := { s with board := { s.board with items := s.board.items.filter (·.loader ≠ loader) } }
    let t := t.post? (farewell.notice? i)
    let t := if t.boardGesture loader then t.failGesture .itemGone else t
    t.present

/-- R92: STAND_DOWN removes every item at once, without frames and without ITEM_GONE; a gesture of the Board ends with
ITEM_GONE, and the indicator is turned off. -/
def State.clearBoard (s : State) : State :=
  let t := { s with board := { s.board with items := [] } }
  let t :=
    match s.board.gesture with
    | some g => if g.request.ofBoard then t.failGesture .itemGone else t
    | none => t
  t.present

/-! ### Boarding (section 5.2) -/

/-- Whether two kinds bear the same name (R87). -/
def ItemKind.sameKind (a b : ItemKind) : Bool := decide (a.level = b.level)

/-- R87: an item that replaces the item of its loader keeps the presented state and takes the last place. A gesture of
the Board armed for it runs on when kind, mode and offering station are unchanged, and ends with ITEM_CHANGED
otherwise. A presented item whose kind changes is announced by PRESENTED. -/
def State.replaceItem (old new : Item) (s : State) : State :=
  let item := { new with presented := old.presented }
  let t := { s with board := { s.board with
    items := s.board.items.filter (·.loader ≠ new.loader) ++ [item] } }
  let unchanged :=
    old.kind.sameKind new.kind && decide (old.mode = new.mode) &&
      decide (old.kind.offering? = new.kind.offering?)
  let t := if old.presented && t.boardGesture new.loader && !unchanged then t.failGesture .itemChanged else t
  if old.presented && !old.kind.sameKind new.kind then t.announceItem item else t

/-- R85, R88: an automatic DECLINE goes to the source of a named offer, and AUTO_DECLINED is posted. -/
def State.autoDecline (f : RxFrame) (reason : DeclineReason) (s : State) : State :=
  (s.give (TxFrame.make .decline f.source f.loader f.epoch [reason.code])).post
    (.autoDeclined f.loader f.source reason)

/-- R88: a newcomer joins at the last place, BOARDED is posted, and a presentation is made if none stands. -/
def State.joinBoard (item : Item) (s : State) : State :=
  ({ s with board := { s.board with items := s.board.items ++ [item] } }.post
    (.boarded item.loader item.kind item.mode)).present

/-- R88: the highest level number among the unpresented items. -/
def highestUnpresented (items : List Item) : Nat :=
  (items.filter (!·.presented)).foldl (fun a i => max a i.kind.level) 0

/-- R88: the item a newcomer of a level displaces from a full Board: the oldest unpresented item of the highest level
number, when that number is above the newcomer's. -/
def displaced? (level : Nat) (items : List Item) : Option Item :=
  if level < highestUnpresented items then
    firstOfLevel (highestUnpresented items) (items.filter (!·.presented))
  else none

/-- R87, R88: boarding an item heard in frame `f`. -/
def State.boardItem (f : RxFrame) (item : Item) (s : State) : State :=
  match s.item? item.loader with
  | some old => s.replaceItem old item
  | none =>
    if s.board.items.length < Config.boardSize then s.joinBoard item
    else
      match displaced? item.kind.level s.board.items with
      | some gone => (s.removeItem gone.loader (.gone .displaced)).joinBoard item
      | none =>
        match item.kind with
        | .namedOffer _ => s.autoDecline f .boardFull
        | .assist .. | .poolOffer .. => s

/-- R85: an OFFER addressed to this chair or to a pool of its set. -/
def State.boardOffer (f : RxFrame) (s : State) : State :=
  match f.mode? with
  | none => s
  | some m =>
    if f.loader = 0 ∨ f.loader = s.station then s
    else
      let named := decide (f.dest = s.station)
      if s.holds.posture ≠ .active then (if named then s.autoDecline f .vacant else s)
      else if s.isHeld f.loader then s
      else if s.holds.entries.length ≥ Config.tableSize ∧ named = true then
        (s.autoDecline f .tableFull).removeItem f.loader (.gone .declined)
      else
        s.boardItem f
          { loader := f.loader
            kind := if named then .namedOffer f.source else .poolOffer f.source (f.dest - 64)
            mode := m
            epoch := f.epoch
            deadline := s.now + s.offerSpan (f.halfAt 1)
            presented := false }

/-- R86: an ASSIST_CALL for a loader that is not held, addressed to a pool of the chair's set. -/
def State.boardAssist (f : RxFrame) (s : State) : State :=
  if f.loader = 0 ∨ f.loader = s.station ∨ s.holds.posture ≠ .active then s
  else
    s.boardItem f
      { loader := f.loader
        kind := .assist (f.dest - 64) (f.halfAt 0)
        mode := .drive
        epoch := f.epoch
        deadline := s.now + Config.assistRefresh
        presented := false }

/-- R90: a GRANT about a boarded loader removes the item. -/
def State.grantAtBoard (f : RxFrame) (s : State) : State := s.removeItem f.loader (.granted (f.at 0).toNat)

/-- R91: a WITHDRAW from the offering station removes an offer item. -/
def State.withdrawAtBoard (f : RxFrame) (s : State) : State :=
  match s.item? f.loader with
  | none => s
  | some i => if i.kind.offering? = some f.source then s.removeItem f.loader (.gone .withdrawn) else s

/-! ### Commands -/

/-- R91: the cause of an item's deadline: EXPIRED for an offer, SILENT for an assist item. -/
def ItemKind.expiryCause : ItemKind → GoneCause
  | .namedOffer _ | .poolOffer .. => .expired
  | .assist .. => .silent

/-- ITEM_DEADLINE_EXPIRY (R91). -/
def execItemDeadlineExpiry (loader : Byte) (s : State) : Host.Outcome State Fault Refusal :=
  .next <|
    match s.activeAs .chair, s.item? loader.toNat with
    | true, some i => (s.reach i.deadline).removeItem loader.toNat (.gone i.kind.expiryCause)
    | _, _ => s

/-- GESTURE_WINDOW_EXPIRY (R100). -/
def execGestureWindowExpiry (s : State) : Host.Outcome State Fault Refusal :=
  .next <|
    match s.activeAs .chair, s.board.gesture with
    | true, some g => (s.reach g.deadline).failGesture .timeout
    | _, _ => s

/-- R101: the contents of the READ_BOARD response. -/
def State.boardContents (s : State) : List Byte :=
  [byte s.board.items.length] ++
  (presentationOrder s.board.items).flatMap (fun i =>
    [byte i.kind.level, byte i.kind.level, byte i.loader, byte (i.kind.offering?.getD 0), byte (i.kind.pool?.getD 0),
      modeCode i.mode] ++ bytesOfHalf i.epoch ++ bytesOfHalf (i.kind.location?.getD 0) ++
      bytesOfNat16 (min (s.msUntil i.deadline) 65535) ++ [byteOfBool i.presented]) ++
  (match s.board.gesture with
   | none => [0, 0, 0, 0, 0, 0]
   | some g =>
     [1, if g.request.ofBoard then 1 else 2, byte g.loader, g.request.code] ++
       bytesOfNat16 (min (s.msUntil g.deadline) 65535))

/-- R101: READ_BOARD is carried out. -/
def State.readBoard (s : State) : State × Answer := (s, { code := .ok, contents := s.boardContents })

/-- READ_BOARD (R101). -/
def execReadBoard (tag : Byte) (s : State) : Host.Outcome State Fault Refusal :=
  .next (s.request 0x22 tag true (some .chair) State.readBoard)

end Sys2Proof.Machine
end

