-- ==== Sys2Proof/Machine/HoldTable.lean ====
section
/-!
DEFINITION. The Hold Table (chapter 4) and the chair side of the Freshness Monitor (chapter 6): outstanding frames,
additions and removals, the loader's answers, and the commands of the entries' timers. The console's requests stand in
ChairRequests.lean.
-/

namespace Sys2Proof.Machine

/-! ### Entries -/

/-- R56: an entry takes a mode; the continue flag becomes yes when SUPERVISE is taken while the mode was not SUPERVISE,
keeps its value while the mode stays SUPERVISE, and is not present in DRIVE. -/
def Entry.takeMode (m : Mode) (e : Entry) : Entry :=
  match m with
  | .drive => { e with mode := .drive, continueOk := false }
  | .supervise =>
    { e with mode := .supervise, continueOk := if e.mode = .supervise then e.continueOk else true }

/-- A change of phase: the supervise deadline goes with HELD and OFFERING in SUPERVISE (R142). -/
def Entry.enter (p : Phase) (e : Entry) : Entry := Entry.settleSupervise { e with phase := p }

/-- The outstanding frame of a phase, present in ACQUIRING and RELEASING (Table 4-1). -/
def Phase.out? : Phase → Option Outstanding
  | .acquiring _ o => some o
  | .releasing o => some o
  | .held _ | .offering _ | .suspended => none

/-- The offer of a phase, present in OFFERING. -/
def Phase.offer? : Phase → Option ChairOffer
  | .offering o => some o
  | .acquiring .. | .held _ | .releasing _ | .suspended => none

/-- The last offer of a phase, present in HELD. -/
def Phase.lastOffer? : Phase → Option LastOffer
  | .held o => o
  | .acquiring .. | .offering _ | .releasing _ | .suspended => none

/-- An offer that ended without a grant, kept as the last offer. -/
def ChairOffer.asLast (o : ChairOffer) : LastOffer := { target := o.target, mode := o.mode }

/-- R70: whether a grant to station `n` completes an offer to a target. -/
def Party.completedBy (n : Nat) : Party → Bool
  | .station t => decide (n = t)
  | .pool _ => decide (n ≠ 0)

/-- R70: whether a grant to `n` completes the offer or the last offer of a phase. -/
def Phase.completedBy (n : Nat) (p : Phase) : Bool :=
  match p with
  | .offering o => o.target.completedBy n
  | .held (some o) => o.target.completedBy n
  | .held none | .acquiring .. | .releasing _ | .suspended => false

/-- R114: the status age in milliseconds, from the last STATUS heard or from the addition. -/
def State.statusAge (e : Entry) (s : State) : Nat := s.msSince (e.lastStatusAt.getD e.addedAt)

/-! ### Outstanding frames (R57) -/

/-- A fresh outstanding frame: attempts at 1 and the answer deadline 4 × P from its giving. -/
def State.newOut (kind : OutKind) (mode : Option Mode) (epoch : Epoch) (s : State) : Outstanding :=
  { kind, mode, epoch, attempts := 1, deadline := s.now + s.periods 4, ref := s.holds.nextRef }

/-- R57: the frame of an outstanding frame: its mode is the body, but for RELEASE, which has none. -/
def Outstanding.frame (loader : Nat) (o : Outstanding) : TxFrame :=
  TxFrame.make o.kind.frameKind loader loader o.epoch ((o.mode.map modeCode).toList) (.outstanding o.ref)

/-- R57: a fresh outstanding frame is given to the LIU; the next one takes another reference (log entry 10). -/
def State.giveOut (loader : Nat) (o : Outstanding) (s : State) : State :=
  let t := s.give (o.frame loader)
  { t with holds := { t.holds with nextRef := t.holds.nextRef + 1 } }

/-- An entry enters ACQUIRING in a mode with an origin, and CLAIM in that mode is its outstanding frame (R61, R63, R77). -/
def State.claimAgain (loader : Nat) (origin : Origin) (mode : Mode) (epoch : Epoch) (s : State) : State :=
  let out := s.newOut .claim (some mode) epoch
  (s.giveOut loader out).mapEntry loader fun e => (e.takeMode mode).enter (.acquiring origin out)

/-- R66, R71: an entry enters RELEASING, or starts its release over, with RELEASE of an epoch as its outstanding
frame. -/
def State.sendRelease (loader : Nat) (epoch : Epoch) (s : State) : State :=
  let out := s.newOut .release none epoch
  (s.giveOut loader out).mapEntry loader fun e => Entry.enter (.releasing out) { e with epoch }

/-- R71: a grant or STATUS of another epoch starts the release over: the entry takes the mode as well. -/
def State.releaseOver (loader : Nat) (mode : Mode) (epoch : Epoch) (s : State) : State :=
  (s.mapEntry loader (·.takeMode mode)).sendRelease loader epoch

/-- R55, R56, R60, R114: an entry is added at the tail in ACQUIRING with origin NEW and sends its outstanding frame. -/
def State.addEntry (loader : Nat) (kind : OutKind) (mode : Mode) (epoch : Epoch) (s : State) : State :=
  let out := s.newOut kind (some mode) epoch
  let e : Entry :=
    { loader, mode, phase := .acquiring .new out, epoch, continueOk := decide (mode = .supervise)
      addedAt := s.now, absence := some (s.now + s.absenceTime) }
  let t := s.giveOut loader out
  { t with holds := { t.holds with entries := t.holds.entries ++ [e] } }

/-- R92: the Engine adds an entry for a loader that may be boarded, with the item's epoch or 0 (R60); the item leaves
the Board without a frame and without ITEM_GONE. -/
def State.addClaimed (loader : Nat) (kind : OutKind) (mode : Mode) (s : State) : State :=
  (s.addEntry loader kind mode ((s.item? loader).map (·.epoch) |>.getD 0)).removeItem loader .silent

/-! ### Notices and removal (R54, R81) -/

/-- R81: whether a notice goes with the HOLD_LOST flag. -/
def Notice.losesHold : Notice → Bool
  | .lost .. | .suspended .. => true
  | _ => false

/-- R81: the Engine posts a notice, raising HOLD_LOST with LOST and SUSPENDED. -/
def State.tell (n : Notice) (s : State) : State :=
  if n.losesHold then (s.post n).raise .holdLost else s.post n

/-- R54: in STANDING_DOWN the event that empties the table makes the posture VACANT. -/
def State.settlePosture (s : State) : State :=
  if s.holds.posture = .standingDown ∧ s.holds.entries.isEmpty then
    State.post (.posture .vacant) { s with holds := { s.holds with posture := .vacant } }
  else s

/-- An entry is removed with a notice; the posture follows. -/
def State.leave (loader : Nat) (n : Notice) (s : State) : State :=
  let t := { s with holds := { s.holds with entries := s.holds.entries.filter (·.loader ≠ loader) } }
  (t.tell n).settlePosture

/-- The station other than this chair that a holder field names, else 0 (the new holder of a LOST notice, log entry
22). -/
def State.otherHolder (h : Nat) (s : State) : Nat := if h = s.station then 0 else h

/-- R71, R72, R78: an entry enters HELD by a grant, notice ACQUIRED is posted, and in SUPERVISE a SUPERVISE frame goes
out at once (R142). A grant that R71 takes clears the assist raised flag (R79). -/
def State.acquired (loader : Nat) (mode : Mode) (epoch : Epoch) (source : FrameKind) (clearAssist : Bool) (s : State) :
    State :=
  let t := s.mapEntry loader fun e =>
    Entry.enter (.held none) { e.takeMode mode with epoch, assist := e.assist && !clearAssist }
  (t.tell (.acquired loader mode epoch source)).giveSupervise loader

/-- R65, R75, R76: an entry in OFFERING returns to HELD with its offer kept as the last offer. -/
def State.endOffer (loader : Nat) (o : ChairOffer) (s : State) : State :=
  s.mapEntry loader (Entry.enter (.held (some o.asLast)))

/-- R65, R76: a WITHDRAW for an entry. -/
def State.sendWithdraw (e : Entry) (s : State) : State :=
  s.give (TxFrame.make .withdraw e.loader e.loader e.epoch [])

/-! ### GRANT (R70, R71) -/

/-- R70: the reason of LOST at a GRANT with new holder `n` and previous holder `v`. -/
def lostReason (own n v : Nat) (assist : Bool) : LostReason :=
  if v ≠ own then .taken else if n = 0 then .lapsed else if assist then .taken else .seized

/-- R70: a GRANT about a held loader naming another party. -/
def State.grantOther (e : Entry) (n v : Nat) (s : State) : State :=
  let lost := s.leave e.loader (.lost e.loader n (lostReason s.station n v e.assist))
  match e.phase with
  | .offering _ | .held _ => if e.phase.completedBy n then s.leave e.loader (.handedOver e.loader n) else lost
  | .releasing _ => if n = 0 then s.leave e.loader (.released e.loader) else lost
  | .acquiring .. => if n = 0 then s else lost
  | .suspended => lost

/-- R71, R79: a GRANT about a held loader naming this chair. In RELEASING it clears the assist raised flag, whether the
release stands or starts over; a repeat of a grant already taken changes nothing (log entry 27). -/
def State.grantMine (e : Entry) (mode : Mode) (epoch : Epoch) (s : State) : State :=
  match e.phase with
  | .acquiring .. => s.acquired e.loader mode epoch .grant true
  | .releasing out =>
    let t := s.mapEntry e.loader fun e => { e with assist := false }
    if epoch = out.epoch then t else t.releaseOver e.loader mode epoch
  | .held _ | .offering _ | .suspended =>
    if epoch = e.epoch then s else s.acquired e.loader mode epoch .grant true

/-- R70, R71: a GRANT about a held loader. -/
def State.grantAtEngine (e : Entry) (f : RxFrame) (s : State) : State :=
  if (f.at 0).toNat = s.station then s.grantMine e (modeTaken (f.at 1)) f.epoch
  else s.grantOther e (f.at 0).toNat (f.at 2).toNat

/-! ### REFUSE (R72 to R75) -/

/-- R72: the REFUSED notice of a REFUSE frame. -/
def refusedNotice (e : Entry) (f : RxFrame) : Notice := .refused e.loader (f.at 2) (f.at 0) (f.at 1)

/-- R73: a refusal that ends an acquisition by its origin. A refused change from DRIVE to SUPERVISE returns its entry to
DRIVE, as R73 says, even where another entry has taken DRIVE meanwhile; R55 allows one DRIVE entry, and no rule says
which of the two gives way (DESIGN CHOICE, log entry 26). -/
def State.endAcquisition (e : Entry) (origin : Origin) (f : RxFrame) (s : State) : State :=
  let holder := (f.at 1).toNat
  let other := decide (holder ≠ 0 ∧ holder ≠ s.station)
  match origin with
  | .new => s.leave e.loader (refusedNotice e f)
  | .modeChange back =>
    if (f.at 0 = RefuseReason.taken.code ∨ f.at 0 = RefuseReason.reserved.code) ∧ other = true then
      s.leave e.loader (.lost e.loader holder .taken)
    else
      ((s.mapEntry e.loader fun e => (e.takeMode back).enter (.held none)).tell (refusedNotice e f)).giveSupervise
        e.loader
  | .reclaim =>
    s.leave e.loader (.lost e.loader (s.otherHolder holder) (if other then .taken else .lapsed))

/-- R74: a matched REFUSE to an entry in RELEASING. -/
def State.endRelease (e : Entry) (f : RxFrame) (s : State) : State :=
  let holder := (f.at 1).toNat
  if f.at 0 = RefuseReason.notHolder.code then
    if holder = 0 then s.leave e.loader (.released e.loader)
    else s.leave e.loader (.lost e.loader (s.otherHolder holder) .taken)
  else if f.at 0 = RefuseReason.staleEpoch.code ∧ holder = s.station then s.sendRelease e.loader f.epoch
  else if f.at 0 = RefuseReason.staleEpoch.code ∧ holder ≠ 0 then
    s.leave e.loader (.lost e.loader holder .taken)
  else s.leave e.loader (refusedNotice e f)

/-- R72: whether a REFUSE is the lost grant of an outstanding CLAIM or SEIZE. -/
def State.isLostGrant (out : Outstanding) (f : RxFrame) (s : State) : Bool :=
  decide (f.at 0 = RefuseReason.taken.code) && decide ((f.at 1).toNat = s.station) &&
    decide (out.kind = .claim ∨ out.kind = .seize) && decide (f.epoch ≠ out.epoch)

/-- R72 to R75: a REFUSE addressed to this chair about a held loader; one that is not matched is discarded. -/
def State.refuseAtEngine (e : Entry) (f : RxFrame) (s : State) : State :=
  if f.at 2 = FrameKind.clear.code then s.tell (refusedNotice e f)
  else
    match e.phase with
    | .acquiring origin out =>
      if f.at 2 ≠ out.kind.frameKind.code then s
      else if s.isLostGrant out f then s.acquired e.loader e.mode f.epoch .refuse false
      else s.endAcquisition e origin f
    | .releasing _ => if f.at 2 ≠ FrameKind.release.code then s else s.endRelease e f
    | .offering o =>
      if f.at 2 ≠ FrameKind.offer.code then s else (s.endOffer e.loader o).tell (refusedNotice e f)
    | .held _ | .suspended => s

/-! ### DECLINE, ASSIST_CALL (R76, R79) -/

/-- R76: a DECLINE addressed to this chair about a held loader. -/
def State.declineAtEngine (e : Entry) (f : RxFrame) (s : State) : State :=
  match e.phase with
  | .offering o =>
    if o.target = .station f.source then
      ((s.sendWithdraw e).endOffer e.loader o).tell (.declined e.loader o.target (f.at 0))
    else s
  | .acquiring .. | .held _ | .releasing _ | .suspended => s

/-- R79: an ASSIST_CALL about a held loader. -/
def State.assistAtEngine (e : Entry) (f : RxFrame) (s : State) : State :=
  let t := s.mapEntry e.loader fun e => { e with assist := true }
  if e.assist then t else t.tell (.assist e.loader (f.halfAt 0))

/-! ### STATUS (R77, R78, R115) -/

/-- R115: the Monitor takes a STATUS about a held loader. -/
def State.statusAtMonitor (e : Entry) (f : RxFrame) (s : State) : State :=
  let t := s.mapEntry e.loader fun e =>
    { e with
      lastStatusAt := some s.now
      absence := some (s.now + s.absenceTime)
      absent := false
      alertLatch := e.alertLatch || (f.at 8).getLsbD 2 }
  if e.absent then t.post (.present e.loader) else t

/-- R77: the loader report of a STATUS. -/
def reportOf (f : RxFrame) : LoaderReport :=
  { state := f.at 0, cap := f.at 4, speed := f.halfAt 5, link := f.at 7
    stopLatched := (f.at 8).getLsbD 1, setter := f.at 9, assist := (f.at 8).getLsbD 4 }

/-- R77: the loader report is stored and the assist raised flag follows. -/
def State.storeReport (loader : Nat) (f : RxFrame) (s : State) : State :=
  s.mapEntry loader fun e => { e with report := some (reportOf f), assist := (f.at 8).getLsbD 4 }

/-- R77: whether a suspended entry reclaims at once. -/
def State.reclaims (mode : Mode) (s : State) : Bool :=
  match mode with
  | .supervise => true
  | .drive => s.discrete.deadman.active && s.discrete.seat.active && s.axesNeutral && !s.axesStale

/-- R77: an entry enters SUSPENDED with the STATUS's mode and epoch, and the Engine decides the reclaim. -/
def State.suspend (loader : Nat) (mode : Mode) (epoch : Epoch) (s : State) : State :=
  let t := s.mapEntry loader fun e => Entry.enter .suspended { e.takeMode mode with epoch }
  let u := if t.reclaims mode then t.claimAgain loader .reclaim mode epoch else t
  u.tell (.suspended loader mode (t.reclaims mode))

/-- R77: a STATUS that shows ORPHAN with this chair as holder. -/
def State.statusOrphan (e : Entry) (mode : Mode) (epoch : Epoch) (s : State) : State :=
  match e.phase with
  | .held _ | .offering _ | .acquiring (.modeChange _) _ => s.suspend e.loader mode epoch
  | .suspended => s.mapEntry e.loader fun e => { e with epoch }
  | .acquiring .new _ | .acquiring .reclaim _ => s
  | .releasing out => if epoch = out.epoch then s else s.releaseOver e.loader mode epoch

/-- R78: the notice of the removal of an entry in HELD, OFFERING or SUSPENDED by a STATUS with a state byte, a holder
and an epoch. -/
def removalNotice (e : Entry) (own : Nat) (state : Byte) (holder : Nat) (epoch : Epoch) : Notice :=
  if state = AuthState.free.code then .lost e.loader 0 (if epoch = 0 then .restarted else .lapsed)
  else if holder = own then .lost e.loader 0 .epoch
  else if e.phase.completedBy holder then .handedOver e.loader holder
  else .lost e.loader holder .taken

/-- R78: a STATUS that does not show ORPHAN with this chair as holder. -/
def State.statusCompared (e : Entry) (state : Byte) (mode : Mode) (holder : Nat) (epoch : Epoch) (s : State) : State :=
  match e.phase with
  | .acquiring _ out =>
    if holder = s.station ∧ epoch ≠ out.epoch then s.acquired e.loader mode epoch .status false else s
  | .releasing out =>
    if state = AuthState.free.code then s.leave e.loader (.released e.loader)
    else if holder = s.station then (if epoch = out.epoch then s else s.releaseOver e.loader mode epoch)
    else s.leave e.loader (.lost e.loader holder .taken)
  | .held _ | .offering _ | .suspended =>
    if holder = s.station ∧ epoch = e.epoch then s
    else s.leave e.loader (removalNotice e s.station state holder epoch)

/-- R77, R78: the Engine takes a STATUS about a held loader. -/
def State.statusAtEngine (e : Entry) (f : RxFrame) (s : State) : State :=
  let t := s.storeReport e.loader f
  let holder := (f.at 2).toNat
  let mode := modeTaken (f.at 1)
  if f.at 0 = AuthState.orphan.code ∧ holder = s.station then t.statusOrphan e mode f.epoch
  else t.statusCompared e (f.at 0) mode holder f.epoch

/-! ### Disowning (R80) -/

/-- R80: one RELEASE for a loader the table does not hold, and notice DISOWNED. -/
def State.disown (f : RxFrame) (s : State) : State :=
  (s.give (TxFrame.make .release f.loader f.loader f.epoch [])).tell (.disowned f.loader f.epoch)

/-! ### Completions of sendings (R57, R64) -/

/-- R57: the completion of the sending of an outstanding frame starts its answer deadline afresh. -/
def State.outstandingSent (ref : Nat) (s : State) : State :=
  let renew (o : Outstanding) : Outstanding :=
    if o.ref = ref then { o with deadline := s.now + s.periods 4 } else o
  { s with holds := { s.holds with
      entries := s.holds.entries.map fun e =>
        match e.phase with
        | .acquiring g o => { e with phase := .acquiring g (renew o) }
        | .releasing o => { e with phase := .releasing (renew o) }
        | .held _ | .offering _ | .suspended => e } }

/-- R64: the completion of the sending of an OFFER starts the chair's offer deadline. -/
def State.offerSent (ref : Nat) (s : State) : State :=
  { s with holds := { s.holds with
      entries := s.holds.entries.map fun e =>
        match e.phase with
        | .offering o =>
          if o.ref = ref then { e with phase := .offering { o with deadline := some (s.now + o.span) } } else e
        | .acquiring .. | .held _ | .releasing _ | .suspended => e } }

/-! ### Commands -/

/-- R58: the answer deadline of an entry has come: another copy of the outstanding frame, or after four the entry is
given up. -/
def State.answerDeadline (e : Entry) (out : Outstanding) (s : State) : State :=
  let s := s.reach out.deadline
  if out.attempts < Config.maxAttempts then
    let again : Outstanding := { out with attempts := out.attempts + 1, deadline := s.now + s.periods 4 }
    (s.give (again.frame e.loader)).mapEntry e.loader fun e =>
      match e.phase with
      | .acquiring g _ => { e with phase := .acquiring g again }
      | .releasing _ => { e with phase := .releasing again }
      | .held _ | .offering _ | .suspended => e
  else s.leave e.loader (.noAnswer e.loader out.kind)

/-- ANSWER_DEADLINE_EXPIRY (R58). -/
def execAnswerDeadlineExpiry (loader : Byte) (s : State) : Host.Outcome State Fault Refusal :=
  .next <|
    match s.activeAs .chair, s.entry? loader.toNat with
    | true, some e =>
      match e.phase.out? with
      | some out => s.answerDeadline e out
      | none => s
    | _, _ => s

/-- R76: the chair's offer deadline of an entry has come. -/
def State.offerDeadline (e : Entry) (o : ChairOffer) (due : Nat) (s : State) : State :=
  ((s.reach due).endOffer e.loader o).tell (.offerExpired e.loader o.target)

/-- OFFER_DEADLINE_EXPIRY (R76). -/
def execOfferDeadlineExpiry (loader : Byte) (s : State) : Host.Outcome State Fault Refusal :=
  .next <|
    match s.activeAs .chair, s.entry? loader.toNat with
    | true, some e =>
      match e.phase with
      | .offering o => match o.deadline with | some due => s.offerDeadline e o due | none => s
      | .acquiring .. | .held _ | .releasing _ | .suspended => s
    | _, _ => s

/-- R116: the absence deadline of an entry has come. -/
def State.absenceDeadline (e : Entry) (due : Nat) (s : State) : State :=
  let s := s.reach due
  (s.mapEntry e.loader fun e => { e with absent := true, absence := none }).post (.absent e.loader (s.statusAge e))

/-- ABSENCE_DEADLINE_EXPIRY (R116). -/
def execAbsenceDeadlineExpiry (loader : Byte) (s : State) : Host.Outcome State Fault Refusal :=
  .next <|
    match s.activeAs .chair, s.entry? loader.toNat with
    | true, some e => match e.absence with | some due => s.absenceDeadline e due | none => s
    | _, _ => s

end Sys2Proof.Machine
end

