-- ==== Sys2Proof/Machine/ChairRequests.lean ====
section
/-!
DEFINITION. The console's requests on the Hold Table (section 4.3, R51 to R53, R59 to R69), each as the definition that
carries it out with its checks and answer, followed by its command.
-/

namespace Sys2Proof.Machine

/-! ### Checks -/

/-- A check that fails with a code when its condition holds. -/
def failIf (failed : Bool) (code : ResultCode) : Option ResultCode := if failed then some code else none

/-- The first check that fails gives the result code. -/
def firstFailure (checks : List (Option ResultCode)) : Option ResultCode := checks.findSome? id

/-- A request: refused with the code of a failing check and no change, else carried out and answered OK. -/
def State.answer (check : Option ResultCode) (s done : State) : State × Answer :=
  match check with
  | some code => (s, { code })
  | none => (done, { code := .ok })

/-- R59: the value check of a loader: 1 to 63 and not the chair's own station. -/
def State.badLoader (loader : Byte) (s : State) : Bool :=
  !isStation loader || decide (loader.toNat = s.station)

/-- R59: the value check of an OFFER's target: a station other than the chair's own and the loader, or a pool. -/
def State.badTarget (loader target : Byte) (s : State) : Bool :=
  !((isStation target && decide (target.toNat ≠ s.station ∧ target ≠ loader)) ||
    decide (65 ≤ target.toNat ∧ target.toNat ≤ 72))

/-- R51: the posture check. -/
def State.postureCheck (s : State) : Option ResultCode := s.holds.posture.refusal

/-- The stop chain check: STOPCHAIN must read closed. -/
def State.chainCheck (s : State) : Option ResultCode := failIf (!s.chainClosed) .chainOpen

/-- R55: the room check. -/
def State.roomCheck (s : State) : Option ResultCode :=
  failIf (decide (Config.tableSize ≤ s.holds.entries.length)) .tableFull

/-- R55: the one-DRIVE check for a loader asked in DRIVE; its own entry does not count against it (R61). -/
def State.driveCheck (loader : Nat) (mode : Mode) (s : State) : Option ResultCode :=
  failIf (decide (mode = .drive) && s.otherDrive loader) .driveBusy

/-- R60: for DRIVE, no gesture may be armed. -/
def State.gestureCheck (mode : Mode) (s : State) : Option ResultCode :=
  failIf (decide (mode = .drive) && s.board.gesture.isSome) .busy

/-! ### Posture (R52, R53) -/

/-- R52: STAND_UP is carried out. -/
def State.standUp (s : State) : State × Answer :=
  (if s.holds.posture = .active then s
   else State.tell (.posture .active) { s with holds := { s.holds with posture := .active } },
   { code := .ok })

/-- STAND_UP (R52). -/
def execStandUp (tag : Byte) (s : State) : Host.Outcome State Fault Refusal :=
  .next (s.request 0x20 tag true (some .chair) State.standUp)

/-- R53: the posture after a STAND_DOWN in ACTIVE. -/
def State.leavePost (s : State) : State :=
  if s.holds.posture = .active then
    let p : Posture := if s.holds.entries.isEmpty then .vacant else .standingDown
    State.tell (.posture p) { s with holds := { s.holds with posture := p } }
  else s

/-- R53: a gesture that the Engine has armed ends with cause STAND_DOWN. -/
def State.endEngineGesture (s : State) : State :=
  match s.board.gesture with
  | some g => if g.request.ofBoard then s else s.failGesture .standDown
  | none => s

/-- R53, R92: STAND_DOWN is carried out: the posture, the Board and the Engine's gesture. -/
def State.standDown (s : State) : State × Answer := (s.leavePost.clearBoard.endEngineGesture, { code := .ok })

/-- STAND_DOWN (R53). -/
def execStandDown (tag : Byte) (s : State) : Host.Outcome State Fault Refusal :=
  .next (s.request 0x1F tag true (some .chair) State.standDown)

/-! ### CLAIM (R60, R61) -/

/-- R60: a CLAIM for a loader that the table does not hold. -/
def State.claimNew (loader : Nat) (mode : Mode) (s : State) : State × Answer :=
  s.answer
    (firstFailure [s.postureCheck, s.chainCheck, s.roomCheck, s.driveCheck loader mode, s.gestureCheck mode])
    (match mode with
     | .supervise => s.addClaimed loader .claim .supervise
     | .drive => s.armGesture .claim loader)

/-- R61: a CLAIM for a loader whose entry is SUSPENDED, the manual reclaim. -/
def State.reclaim (e : Entry) (mode : Mode) (s : State) : State × Answer :=
  s.answer (firstFailure [s.postureCheck, s.chainCheck, s.driveCheck e.loader mode, s.gestureCheck mode])
    (match mode with
     | .supervise => s.claimAgain e.loader .reclaim .supervise e.epoch
     | .drive => s.armGesture .reclaim e.loader)

/-- R59 to R61: CLAIM is carried out. -/
def State.claim (loader mode : Byte) (s : State) : State × Answer :=
  match s.badLoader loader, modeOf? mode with
  | false, some m =>
    match s.entry? loader.toNat with
    | none => s.claimNew loader.toNat m
    | some e => if e.phase = .suspended then s.reclaim e m else (s, { code := .alreadyHeld })
  | _, _ => (s, { code := .badValue })

/-- CLAIM (R60, R61). -/
def execClaim (tag loader mode : Byte) (s : State) : Host.Outcome State Fault Refusal :=
  .next (s.request 0x11 tag true (some .chair) (State.claim loader mode))

/-! ### SET_MODE (R63) -/

/-- Whether a phase is HELD. -/
def Phase.isHeld : Phase → Bool
  | .held _ => true
  | .acquiring .. | .offering _ | .releasing _ | .suspended => false

/-- R63: the mode change of a held entry, asked or carried out: CLAIM in the new mode with the entry's epoch. -/
def State.changeMode (e : Entry) (mode : Mode) (s : State) : State :=
  s.claimAgain e.loader (.modeChange e.mode) mode e.epoch

/-- R63: SET_MODE on an entry. -/
def State.setModeOf (e : Entry) (mode : Mode) (s : State) : State × Answer :=
  if e.phase.isHeld = false then (s, { code := .wrongPhase })
  else if mode = e.mode then (s, { code := .ok })
  else
    s.answer (firstFailure [s.driveCheck e.loader mode, s.gestureCheck mode])
      (match mode with
       | .supervise => s.changeMode e .supervise
       | .drive => s.armGesture .setMode e.loader)

/-- R59, R63: SET_MODE is carried out. -/
def State.setMode (loader mode : Byte) (s : State) : State × Answer :=
  match s.badLoader loader, modeOf? mode with
  | false, some m =>
    match s.entry? loader.toNat with
    | none => (s, { code := .notHeld })
    | some e => s.setModeOf e m
  | _, _ => (s, { code := .badValue })

/-- SET_MODE (R63). -/
def execSetMode (tag loader mode : Byte) (s : State) : Host.Outcome State Fault Refusal :=
  .next (s.request 0x12 tag true (some .chair) (State.setMode loader mode))

/-! ### OFFER, WITHDRAW, RELEASE (R64 to R66) -/

/-- R59, R64: the OFFER frame, its expiry clamped to 1 to 300. -/
def offerFrame (e : Entry) (target : Byte) (mode : Mode) (expiry : Half) (ref : Nat) : TxFrame :=
  TxFrame.make .offer target.toNat e.loader e.epoch
    (modeCode mode :: bytesOfNat16 (clampNat 1 300 expiry.toNat)) (.offer ref)

/-- R64: an OFFER is sent and the entry enters OFFERING. The offer deadline runs from the giving only when the LIU
drops the frame. -/
def State.makeOffer (e : Entry) (target : Byte) (mode : Mode) (expiry : Half) (s : State) : State :=
  let frame := offerFrame e target mode expiry s.holds.nextRef
  let span := s.offerSpan expiry
  let offer : ChairOffer :=
    { target := Party.ofCode target.toNat, mode, span, ref := s.holds.nextRef
      deadline := if s.wouldDrop frame then some (s.now + span) else none }
  let t := s.give frame
  State.mapEntry e.loader (Entry.enter (.offering offer))
    { t with holds := { t.holds with nextRef := t.holds.nextRef + 1 } }

/-- R59, R64: OFFER is carried out. -/
def State.offer (loader target mode : Byte) (expiry : Half) (s : State) : State × Answer :=
  match s.badLoader loader || s.badTarget loader target, modeOf? mode with
  | false, some m =>
    match s.entry? loader.toNat with
    | none => (s, { code := .notHeld })
    | some e =>
      if e.phase.isHeld then (s.makeOffer e target m expiry, { code := .ok }) else (s, { code := .wrongPhase })
  | _, _ => (s, { code := .badValue })

/-- OFFER (R64). -/
def execOffer (tag loader target mode : Byte) (expiry : Half) (s : State) : Host.Outcome State Fault Refusal :=
  .next (s.request 0x13 tag true (some .chair) (State.offer loader target mode expiry))

/-- R65: WITHDRAW on an entry. -/
def State.withdrawOf (e : Entry) (s : State) : State × Answer :=
  match e.phase with
  | .offering o => ((s.sendWithdraw e).endOffer e.loader o, { code := .ok })
  | .acquiring .. | .held _ | .releasing _ | .suspended => (s, { code := .wrongPhase })

/-- R59: the value check and the look-up that a request on an entry begins with. -/
def State.onEntry (loader : Byte) (act : Entry → State → State × Answer) (s : State) : State × Answer :=
  if s.badLoader loader then (s, { code := .badValue })
  else
    match s.entry? loader.toNat with
    | none => (s, { code := .notHeld })
    | some e => act e s

/-- R65: WITHDRAW is carried out. -/
def State.withdraw (loader : Byte) (s : State) : State × Answer := s.onEntry loader State.withdrawOf

/-- WITHDRAW (R65). -/
def execWithdraw (tag loader : Byte) (s : State) : Host.Outcome State Fault Refusal :=
  .next (s.request 0x14 tag true (some .chair) (State.withdraw loader))

/-- R66: RELEASE on an entry. -/
def State.releaseOf (e : Entry) (s : State) : State × Answer :=
  match e.phase with
  | .held _ | .offering _ | .suspended => (s.sendRelease e.loader e.epoch, { code := .ok })
  | .acquiring .. | .releasing _ => (s, { code := .wrongPhase })

/-- R66: RELEASE is carried out. -/
def State.release (loader : Byte) (s : State) : State × Answer := s.onEntry loader State.releaseOf

/-- RELEASE (R66). -/
def execRelease (tag loader : Byte) (s : State) : Host.Outcome State Fault Refusal :=
  .next (s.request 0x15 tag true (some .chair) (State.release loader))

/-! ### SEIZE (R67) -/

/-- R59, R67: SEIZE is carried out. -/
def State.seize (loader mode : Byte) (s : State) : State × Answer :=
  match s.badLoader loader, modeOf? mode with
  | false, some m =>
    s.answer
      (firstFailure [failIf (!s.settings.senior) .notSenior, s.postureCheck, s.chainCheck,
        failIf (s.isHeld loader.toNat) .alreadyHeld, s.roomCheck, s.driveCheck loader.toNat m])
      (s.addClaimed loader.toNat .seize m)
  | _, _ => (s, { code := .badValue })

/-- SEIZE (R67). -/
def execSeize (tag loader mode : Byte) (s : State) : Host.Outcome State Fault Refusal :=
  .next (s.request 0x16 tag true (some .chair) (State.seize loader mode))

/-! ### PAUSE, RESUME (R68) -/

/-- R68, R142: the continue flag of a SUPERVISE entry is set, and a SUPERVISE frame goes out at once in HELD and
OFFERING. -/
def State.setContinue (value : Bool) (e : Entry) (s : State) : State × Answer :=
  match e.mode with
  | .supervise =>
    ((s.mapEntry e.loader fun e => { e with continueOk := value }).giveSupervise e.loader, { code := .ok })
  | .drive => (s, { code := .notSupervise })

/-- R68: PAUSE is carried out. -/
def State.pause (loader : Byte) (s : State) : State × Answer := s.onEntry loader (State.setContinue false)

/-- PAUSE (R68). -/
def execPause (tag loader : Byte) (s : State) : Host.Outcome State Fault Refusal :=
  .next (s.request 0x17 tag true (some .chair) (State.pause loader))

/-- R68: RESUME is carried out. -/
def State.resume (loader : Byte) (s : State) : State × Answer := s.onEntry loader (State.setContinue true)

/-- RESUME (R68). -/
def execResume (tag loader : Byte) (s : State) : Host.Outcome State Fault Refusal :=
  .next (s.request 0x18 tag true (some .chair) (State.resume loader))

/-! ### READ_HOLDS (R69) -/

/-- R69: the origin of an entry, present in ACQUIRING. -/
def Phase.origin? : Phase → Option Origin
  | .acquiring g _ => some g
  | .held _ | .offering _ | .releasing _ | .suspended => none

/-- R69: the loader report with the mark that it has been heard. -/
def reportBytes (r : Option LoaderReport) : List Byte :=
  marked 8 r.isSome <|
    match r with
    | none => []
    | some r =>
      [r.state, r.cap] ++ bytesOfHalf r.speed ++ [r.link, byteOfBool r.stopLatched, r.setter, byteOfBool r.assist]

/-- R69: what READ_HOLDS reports of an entry (log entry 13). While the offer deadline is not yet running, before the
OFFER's sending is complete, there is no remaining time and the model sends it as absent: presence mark 0 and value 0
(DESIGN CHOICE, log entry 39). -/
def State.entryBytes (s : State) (e : Entry) : List Byte :=
  [byte e.loader, modeCode e.mode, e.phase.code] ++ bytesOfHalf e.epoch ++
  marked1 (e.phase.origin?.map Origin.code) ++ marked1 (e.phase.out?.map (·.kind.frameKind.code)) ++
  marked1 (e.phase.out?.map (byte ·.attempts)) ++ marked2 (e.phase.out?.map (s.remaining ·.deadline)) ++
  marked1 (e.phase.offer?.map (byte ·.target.code)) ++ marked1 (e.phase.offer?.map (modeCode ·.mode)) ++
  marked2 (e.phase.offer?.bind (·.deadline.map s.remaining)) ++
  marked1 (e.phase.lastOffer?.map (byte ·.target.code)) ++ marked1 (e.phase.lastOffer?.map (modeCode ·.mode)) ++
  marked1 (if e.mode = .supervise then some (byteOfBool e.continueOk) else none) ++
  [byteOfBool e.assist] ++ reportBytes e.report ++ bytesOfNat16 (min (s.statusAge e) 65535) ++
  [byteOfBool e.absent, byteOfBool e.alertLatch]

/-- R69: the contents of the READ_HOLDS response. -/
def State.holdsContents (s : State) : List Byte :=
  [s.holds.posture.code] ++
  (match s.board.gesture with
   | none => [0, 0, 0]
   | some g => [1, byte g.loader, g.request.code]) ++
  s.holds.entries.flatMap s.entryBytes

/-- R69, R117: READ_HOLDS is carried out: the alert latch of every entry is reported and cleared. -/
def State.readHolds (s : State) : State × Answer :=
  ({ s with holds := { s.holds with entries := s.holds.entries.map fun e => { e with alertLatch := false } } },
   { code := .ok, contents := s.holdsContents })

/-- READ_HOLDS (R69). -/
def execReadHolds (tag : Byte) (s : State) : Host.Outcome State Fault Refusal :=
  .next (s.request 0x21 tag true (some .chair) State.readHolds)

end Sys2Proof.Machine
end

