-- ==== Sys2Proof/Machine/Acceptance.lean ====
section
/-!
DEFINITION. The operator's answers to the presented item (section 5.4) and the completion of the acceptance gesture
(section 5.5, R62, R95, R99).
-/

namespace Sys2Proof.Machine

/-! ### The answers to the presented item (R93 to R96) -/

/-- R94, R95: the kind of the answer frame: ACCEPT for an offer, CLAIM for an assist call. -/
def ItemKind.answerKind : ItemKind → OutKind
  | .namedOffer _ | .poolOffer .. => .accept
  | .assist .. => .claim

/-- R94, R95: an accepted item is carried out: an entry is added with the item's mode and epoch, the answer frame is
its outstanding frame, and the item leaves the Board. -/
def State.takeItem (i : Item) (s : State) : State :=
  (s.addEntry i.loader i.kind.answerKind i.mode i.epoch).removeItem i.loader .silent

/-- R93: the checks of an acceptance of the presented item that depend on it. -/
def State.itemChecks (i : Item) (s : State) : Option ResultCode :=
  firstFailure [s.roomCheck, s.driveCheck i.loader i.mode, s.gestureCheck i.mode,
    failIf (decide (i.mode = .supervise) && !s.discrete.seat.active) .seatOpen]

/-- R93: the presented item, when it is for the loader named. -/
def State.presentedFor (loader : Byte) (s : State) : Except ResultCode Item :=
  match s.presented? with
  | none => .error .noItem
  | some i => if i.loader = loader.toNat then .ok i else .error .notPresented

/-- R93 to R95: ACCEPT_ITEM is carried out: at once for SUPERVISE, by the gesture for DRIVE. -/
def State.acceptItem (loader : Byte) (s : State) : State × Answer :=
  match firstFailure [failIf (!isStation loader) .badValue, s.postureCheck, s.chainCheck], s.presentedFor loader with
  | some code, _ => (s, { code })
  | none, .error code => (s, { code })
  | none, .ok i =>
    s.answer (s.itemChecks i)
      (match i.mode with
       | .supervise => s.takeItem i
       | .drive => s.armGesture .acceptItem i.loader)

/-- ACCEPT_ITEM (R93). -/
def execAcceptItem (tag loader : Byte) (s : State) : Host.Outcome State Fault Refusal :=
  .next (s.request 0x1C tag true (some .chair) (State.acceptItem loader))

/-- R96: DECLINE with reason OPERATOR to the offering station. -/
def State.declineTo (offering : Nat) (i : Item) (s : State) : State :=
  s.give (TxFrame.make .decline offering i.loader i.epoch [DeclineReason.operator.code])

/-- R96: DECLINE_ITEM is carried out on a presented NAMED_OFFER. -/
def State.declineItem (loader : Byte) (s : State) : State × Answer :=
  if isStation loader = false then (s, { code := .badValue })
  else
    match s.presentedFor loader with
    | .error code => (s, { code })
    | .ok i =>
      match i.kind with
      | .namedOffer n => ((s.declineTo n i).removeItem i.loader .silent, { code := .ok })
      | .assist .. | .poolOffer .. => (s, { code := .wrongKind })

/-- DECLINE_ITEM (R96). -/
def execDeclineItem (tag loader : Byte) (s : State) : Host.Outcome State Fault Refusal :=
  .next (s.request 0x1D tag true (some .chair) (State.declineItem loader))

/-- R96: DISMISS_ITEM is carried out on a presented pool offer or assist call. -/
def State.dismissItem (loader : Byte) (s : State) : State × Answer :=
  if isStation loader = false then (s, { code := .badValue })
  else
    match s.presentedFor loader with
    | .error code => (s, { code })
    | .ok i =>
      match i.kind with
      | .namedOffer _ => (s, { code := .wrongKind })
      | .assist .. | .poolOffer .. => (s.removeItem i.loader .silent, { code := .ok })

/-- DISMISS_ITEM (R96). -/
def execDismissItem (tag loader : Byte) (s : State) : Host.Outcome State Fault Refusal :=
  .next (s.request 0x1E tag true (some .chair) (State.dismissItem loader))

/-! ### The completion of a gesture -/

/-- R62: the claim is abandoned with a cause. -/
def State.abandon (loader : Nat) (cause : ResultCode) (s : State) : State :=
  s.tell (.claimAbandoned loader .drive cause)

/-- R62: the completion of a gesture armed for a CLAIM of a new loader. -/
def State.completeNew (loader : Nat) (s : State) : State :=
  match firstFailure [failIf (s.isHeld loader) .alreadyHeld, s.postureCheck, s.chainCheck, s.roomCheck,
      s.driveCheck loader .drive] with
  | some cause => s.abandon loader cause
  | none => s.addClaimed loader .claim .drive

/-- R62: the completion of a gesture armed for a manual reclaim. -/
def State.completeReclaim (loader : Nat) (s : State) : State :=
  match s.entry? loader with
  | none => s.abandon loader .notHeld
  | some e =>
    match firstFailure [failIf (decide (e.phase ≠ .suspended)) .wrongPhase, s.postureCheck, s.chainCheck,
        s.driveCheck loader .drive] with
    | some cause => s.abandon loader cause
    | none => s.claimAgain loader .reclaim .drive e.epoch

/-- R62, R63: the completion of a gesture armed for a change of mode to DRIVE. -/
def State.completeMode (loader : Nat) (s : State) : State :=
  match s.entry? loader with
  | none => s.abandon loader .notHeld
  | some e =>
    match firstFailure [failIf (!e.phase.isHeld) .wrongPhase, s.driveCheck loader .drive] with
    | some cause => s.abandon loader cause
    | none => s.changeMode e .drive

/-- R95: the cause of GESTURE_FAILED for a check that fails at the completion of an acceptance. -/
def failedCause : ResultCode → GestureCause
  | .chainOpen => .chainOpen
  | .tableFull => .tableFull
  | .driveBusy => .driveBusy
  | .vacant | .standingDown => .standDown
  | _ => .itemGone

/-- R95: the completion of a gesture armed for an acceptance. The posture and the item cannot fail here in a state
that a run reaches (R95). -/
def State.completeAcceptance (loader : Nat) (s : State) : State :=
  match s.presented? with
  | none => s.post (.gestureFailed loader .acceptItem .itemGone)
  | some i =>
    match firstFailure [s.postureCheck, s.chainCheck, failIf (decide (i.loader ≠ loader)) .notPresented, s.roomCheck,
        s.driveCheck loader .drive] with
    | some code => s.post (.gestureFailed loader .acceptItem (failedCause code))
    | none => s.takeItem i

/-- R99: a gesture is complete: it is no longer armed, GESTURE_DONE is posted, and its request is carried out or
abandoned. -/
def State.completeGesture (g : Gesture) (s : State) : State :=
  let t := State.post (.gestureDone g.loader g.request) { s with board := { s.board with gesture := none } }
  match g.request with
  | .acceptItem => t.completeAcceptance g.loader
  | .claim => t.completeNew g.loader
  | .reclaim => t.completeReclaim g.loader
  | .setMode => t.completeMode g.loader

/-- R99: a rising edge of CONFIRM: an armed gesture fails with the first condition that fails, or is complete. -/
def State.confirmPressed (s : State) : State :=
  match s.board.gesture with
  | none => s
  | some g =>
    if s.discrete.seat.active = false then s.failGesture .seatOpen
    else if s.discrete.deadman.active = false then s.failGesture .deadmanReleased
    else if s.axesStale then s.failGesture .axesStale
    else if s.axesNeutral = false then s.failGesture .axesNotNeutral
    else s.completeGesture g

end Sys2Proof.Machine
end

