-- ==== Sys2Proof/Machine/Discrete.lean ====
section
/-!
DEFINITION. The Discrete Line Unit (chapter 9): the stop list, the input filters and the delivery of their edges, the
flashing of the indicator, and the requests LOCAL_STOP, STOP, STOP_ALL and CLEAR.
-/

namespace Sys2Proof.Machine

/-! ### The stop list (R167) -/

/-- R167: an entry joins the list by its not-before time, behind the entries of the same time. -/
def insertStop (e : StopEntry) : List StopEntry → List StopEntry
  | [] => [e]
  | g :: rest => if g.notBefore ≤ e.notBefore then g :: insertStop e rest else e :: g :: rest

/-- R167: the STOP frame of an entry, with the Hold Table entry's epoch when the loader is held, else 0. -/
def State.stopFrame (e : StopEntry) (s : State) : TxFrame :=
  TxFrame.make .stop e.loader e.loader ((s.entry? e.loader).map (·.epoch) |>.getD 0) [e.reason] .stop

/-- R167: when no STOP is outstanding and the first entry's time has come, the entry is given to the LIU and the mark is
set, unless the LIU dropped the frame (log entry 33). While the LIU is inactive the list gives nothing. -/
def State.giveStop (s : State) : State :=
  if s.active = false ∨ s.discrete.stopOutstanding = true then s
  else
    match s.discrete.stopList with
    | [] => s
    | e :: rest =>
      if e.notBefore ≤ s.now then
        let f := s.stopFrame e
        let t := s.give f
        { t with discrete := { t.discrete with stopList := rest, stopOutstanding := !s.wouldDrop f } }
      else s

/-- R167: an entry joins the list, or is dropped by a full one with TX_OVERFLOW raised; the list then gives. -/
def State.joinStop (e : StopEntry) (s : State) : State :=
  if s.discrete.stopList.length < Config.stopListSize then
    State.giveStop { s with discrete := { s.discrete with stopList := insertStop e s.discrete.stopList } }
  else s.raise .txOverflow

/-- STOP_LIST_DUE (R167). -/
def execStopListDue (s : State) : Host.Outcome State Fault Refusal :=
  .next <|
    match s.activeAs .chair, s.discrete.stopOutstanding, s.discrete.stopList with
    | true, false, e :: _ => (s.reach e.notBefore).giveStop
    | _, _, _ => s

/-- R168: the three entries of a loader in the chain stop at the edge of moment `t`. -/
def State.chainEntries (t : Nat) (s : State) (e : Entry) : List StopEntry :=
  [⟨e.loader, stopChainReason, t⟩, ⟨e.loader, stopChainReason, t + s.periods 1⟩,
    ⟨e.loader, stopChainReason, t + s.periods 2⟩]

/-- R168: the chair chain stop: the CHAIN entries leave the list and three entries join for each held loader. -/
def State.chainStop (s : State) : State :=
  let joining := s.holds.entries.flatMap (s.chainEntries s.now)
  joining.foldl (fun t e => t.joinStop e)
    { s with discrete := { s.discrete with
        stopList := s.discrete.stopList.filter (·.reason ≠ stopChainReason) } }

/-- R169: the seat stop, while the DRIVE entry is in HELD or OFFERING. -/
def State.seatStop (s : State) : State :=
  match s.driveEntry? with
  | none => s
  | some e =>
    match e.phase with
    | .held _ | .offering _ => s.joinStop ⟨e.loader, stopSeat, s.now⟩
    | .acquiring .. | .releasing _ | .suspended => s

/-! ### Filters (R153 to R155) -/

/-- R153: the settings of an input. -/
def Settings.input (i : Input) (c : Settings) : InputSettings :=
  match i with
  | .stopchain => c.stopchain | .seat => c.seat | .deadman => c.deadman | .confirm => c.confirm

/-- The filter of an input. -/
def Discrete.filter (i : Input) (d : Discrete) : InputFilter :=
  match i with
  | .stopchain => d.stopchain | .seat => d.seat | .deadman => d.deadman | .confirm => d.confirm

/-- The filter of an input replaced. -/
def Discrete.setFilter (i : Input) (f : InputFilter) (d : Discrete) : Discrete :=
  match i with
  | .stopchain => { d with stopchain := f }
  | .seat => { d with seat := f }
  | .deadman => { d with deadman := f }
  | .confirm => { d with confirm := f }

/-- R153: whether the unit samples an input with a filter: all at a chair, STOPCHAIN alone aboard a loader. -/
def isSampled (r : Role) (i : Input) : Bool := decide (r = .chair ∨ i = .stopchain)

/-- R154: the run after a sample. -/
def nextRun (v : Bool) : Option Run → Run
  | none => ⟨v, 1⟩
  | some r => if r.value = v then ⟨v, min 3 (r.count + 1)⟩ else ⟨v, 1⟩

/-- R154: a filter takes a sample. -/
def InputFilter.sample (v : Bool) (f : InputFilter) : InputFilter :=
  let run := nextRun v f.run
  if run.count = 3 then { active := v, settled := true, run := some run } else { f with run := some run }

/-- R154, R155: whether the step from a filter to the next is a filtered edge: the filtered state has changed, or
STOPCHAIN has settled for the first time and is open. -/
def isEdge (i : Input) (before after : InputFilter) : Bool :=
  decide (before.active ≠ after.active) ||
    (decide (i = .stopchain) && !before.settled && after.settled && !after.active)

/-! ### The delivery of edges (R156, R157) -/

/-- R157: the INPUT notice of an edge: each edge for report type level, the edges to active for report type edge. -/
def State.inputNotice (i : Input) (active : Bool) (s : State) : State :=
  if (s.settings.input i).edge = false ∨ active = true then s.post (.input i active) else s

/-- R156: an edge aboard a loader. -/
def State.loaderEdge (i : Input) (active : Bool) (s : State) : State :=
  match i, active with
  | .stopchain, false => (s.raise .chainOpen).setLatch .localChain
  | .stopchain, true => s.judgeMotion
  | .seat, _ | .deadman, _ | .confirm, _ => s

/-- R156: an edge at a chair. -/
def State.chairEdge (i : Input) (active : Bool) (s : State) : State :=
  match i, active with
  | .stopchain, false => (s.raise .chainOpen).chainStop
  | .seat, false => s.seatStop
  | .confirm, true => s.confirmPressed
  | .stopchain, true | .seat, true | .deadman, _ | .confirm, false => s

/-- R156, R157: an edge is delivered: the INPUT notice first, then the blocks of Table 9-1. Which message an idle
transmitter with credit starts first, when a STOPCHAIN opening at a loader makes both the INPUT notice and the zeroed
record waiting, no rule gives: the model starts the INPUT notice (DESIGN CHOICE, log entry 11). -/
def State.deliverEdge (i : Input) (active : Bool) (s : State) : State :=
  let t := s.inputNotice i active
  match s.startup.role with
  | .loader => t.loaderEdge i active
  | .chair => t.chairEdge i active

/-- FILTERED_EDGE (R156): a filter reaches a new filtered state by its third equal sample, or STOPCHAIN settles open for
the first time. -/
def execFilteredEdge (input : Input) (active : Bool) (s : State) : Host.Outcome State Fault Refusal :=
  .next <|
    let before := s.discrete.filter input
    let after : InputFilter := { active, settled := true, run := some ⟨active, 3⟩ }
    if s.active && isSampled s.startup.role input && isEdge input before after then
      State.deliverEdge input active { s with discrete := s.discrete.setFilter input after }
    else s

/-! ### Sampling (R154, R155) -/

/-- R153, R154: a sample of an input from its pin level, after its inversion, when the unit samples it. -/
def State.sampleInput (i : Input) (level : Bool) (s : State) : State :=
  if isSampled s.startup.role i then
    let f := (s.discrete.filter i).sample (level != (s.settings.input i).inverted)
    { s with discrete := s.discrete.setFilter i f }
  else s

/-- R156: the edge that a sample has made of an input, if any, is delivered. -/
def State.deliverSampled (before : Discrete) (i : Input) (s : State) : State :=
  let after := s.discrete.filter i
  if isEdge i (before.filter i) after then s.deliverEdge i after.active else s

/-- R154: every input is sampled at one moment; the edges are delivered in the order of the pins (log entry 16). -/
def State.takeSample (stopchain in2 in3 in4 : Bool) (s : State) : State :=
  let t := (((s.sampleInput .stopchain stopchain).sampleInput .seat in2).sampleInput .deadman in3).sampleInput
    .confirm in4
  (((t.deliverSampled s.discrete .stopchain).deliverSampled s.discrete .seat).deliverSampled s.discrete
    .deadman).deliverSampled s.discrete .confirm

/-- INPUT_SAMPLE (R154). -/
def execInputSample (stopchain in2 in3 in4 : Bool) (s : State) : Host.Outcome State Fault Refusal :=
  .next <|
    match s.active, s.discrete.nextSample with
    | true, some due =>
      let t := s.reach due
      State.takeSample stopchain in2 in3 in4
        { t with discrete := { t.discrete with nextSample := some (t.now + Config.samplePeriod) } }
    | _, _ => s

/-! ### The indicator (R159) -/

/-- INDICATOR_FLASH (R159): the lamp changes and the next phase of 500 ms begins. -/
def execIndicatorFlash (s : State) : Host.Outcome State Fault Refusal :=
  .next <|
    match s.activeAs .loader, s.discrete.flash with
    | true, some due =>
      let t := s.reach due
      { t with discrete := { t.discrete with
          indicator := !t.discrete.indicator, flash := some (t.now + Config.flashPhase) } }
    | _, _ => s

/-! ### Requests (R165, R170, R171) -/

/-- R165: LOCAL_STOP is carried out. -/
def State.localStop (s : State) : State × Answer := (s.setLatch .localStop, { code := .ok })

/-- LOCAL_STOP (R165). -/
def execLocalStop (tag : Byte) (s : State) : Host.Outcome State Fault Refusal :=
  .next (s.request 0x33 tag true (some .loader) State.localStop)

/-- R170: the check that the stop list has room. -/
def State.listCheck (s : State) : Option ResultCode :=
  failIf (decide (Config.stopListSize ≤ s.discrete.stopList.length)) .listFull

/-- R170: STOP is carried out. -/
def State.stopLoader (loader : Byte) (s : State) : State × Answer :=
  s.answer (firstFailure [failIf (s.badLoader loader) .badValue, s.listCheck])
    (s.joinStop ⟨loader.toNat, stopOperator, s.now⟩)

/-- STOP (R170). -/
def execStop (tag loader : Byte) (s : State) : Host.Outcome State Fault Refusal :=
  .next (s.request 0x19 tag true (some .chair) (State.stopLoader loader))

/-- R170: STOP_ALL is carried out. -/
def State.stopEvery (s : State) : State × Answer :=
  s.answer s.listCheck (s.joinStop ⟨0, stopAllReason, s.now⟩)

/-- STOP_ALL (R170). -/
def execStopAll (tag : Byte) (s : State) : Host.Outcome State Fault Refusal :=
  .next (s.request 0x1A tag true (some .chair) State.stopEvery)

/-- R171: a CLEAR for an entry is given to the LIU and marked unsent, unless the LIU dropped it (log entry 33). -/
def State.sendClear (e : Entry) (s : State) : State :=
  let f := TxFrame.make .clear e.loader e.loader e.epoch [] .clear
  let t := s.give f
  { t with discrete := { t.discrete with clearUnsent := !s.wouldDrop f } }

/-- R171: CLEAR on an entry. -/
def State.clearOf (e : Entry) (s : State) : State × Answer :=
  s.answer (firstFailure [failIf (!e.phase.isHeld) .wrongPhase, s.chainCheck, failIf s.discrete.clearUnsent .busy])
    (s.sendClear e)

/-- R171: CLEAR is carried out. -/
def State.clear (loader : Byte) (s : State) : State × Answer := s.onEntry loader State.clearOf

/-- CLEAR (R171). -/
def execClear (tag loader : Byte) (s : State) : Host.Outcome State Fault Refusal :=
  .next (s.request 0x1B tag true (some .chair) (State.clear loader))

end Sys2Proof.Machine
end

