-- ==== Sys2Proof/Machine/LoaderEngine.lean ====
section
/-!
DEFINITION. The loader-side Authority Engine (chapter 3): judging each authority frame, the holder frames (chapter 6 and
8), and the commands of the record's timers and of the machine controller.
-/

namespace Sys2Proof.Machine

/-! ### Judging authority frames (sections 3.4 to 3.7) -/

/-- What the Engine makes of a CLAIM, SEIZE or ACCEPT: a grant to a station in a mode, or a refusal. -/
inductive Verdict where
  | grant (holder : Nat) (mode : Mode)
  | refuse (reason : RefuseReason)
  deriving DecidableEq, Repr

/-- R29: one REFUSE answers a frame; the record stays. -/
def State.refuse (reason : RefuseReason) (f : RxFrame) (s : State) : State :=
  s.give (TxFrame.make .refuse f.source s.station s.record.epoch
    [reason.code, byte (s.record.auth.holder?.getD 0), f.kind.code])

/-- Carrying out a verdict. -/
def State.carryOut (v : Verdict) (f : RxFrame) (s : State) : State :=
  match v with
  | .grant c m => s.makeGrant (some (c, m))
  | .refuse r => s.refuse r f

/-- R31: the lost-grant test for a frame of epoch `e` from station `b`. -/
def Record.lostGrant (b : Nat) (e : Epoch) (r : Record) : Bool :=
  decide (r.auth.current? = some b) && decide ((r.lastGrant.bind (·.holder)) = some b) && decide (e = r.epoch - 1)

/-- R32: a CLAIM from station `c` in mode `m`; `matching` says that its epoch equals the record's. -/
def Authority.judgeClaim (c : Nat) (m : Mode) (matching : Bool) : Authority → Verdict
  | .free => .grant c m
  | .held h _ _ =>
    if c = h then (if matching then .grant c m else .refuse .staleEpoch) else .refuse .taken
  | .transfer .. => .refuse .taken
  | .assist .. => if m = .drive then .grant c .drive else .refuse .badMode
  | .orphan h _ _ =>
    if c = h then (if matching then .grant c m else .refuse .staleEpoch) else .refuse .reserved

/-- R34: a SEIZE from a senior station `k`, after the lost-grant test. -/
def Authority.judgeSeize (k : Nat) (m : Mode) (standstill : Bool) : Authority → Verdict
  | .free | .orphan .. => .grant k m
  | .held .. | .transfer .. | .assist .. => if standstill then .grant k m else .refuse .moving

/-- R37: whether station `b` is admissible for an offer to `party` by `holder`. -/
def Party.admits (b holder : Nat) : Party → Bool
  | .station n => decide (b = n)
  | .pool _ => decide (b ≠ holder)

/-- R37: an ACCEPT from station `b` in mode `m`. -/
def Authority.judgeAccept (b : Nat) (m : Mode) (matching : Bool) : Authority → Verdict
  | .transfer h _ i =>
    if i.party.admits b h = false then .refuse .notOffered
    else if matching = false then .refuse .staleEpoch
    else if m ≠ i.mode then .refuse .badMode
    else .grant b m
  | .held h _ (some o) => if o.party.admits b h then .refuse .late else .refuse .notOffered
  | .held _ _ none | .assist .. | .free => .refuse .notOffered
  | .orphan .. => .refuse .reserved

/-- R35: the tests of an OFFER from station `a` to destination `dest`; `own` is the loader's own station. -/
def Authority.judgeOffer (a dest own : Nat) (matching : Bool) (auth : Authority) : Option RefuseReason :=
  if auth.current? ≠ some a then some .notHolder
  else if matching = false then some .staleEpoch
  else if auth.state = .assist then some .busyAssist
  else if dest = 0 ∨ dest = a ∨ dest = own then some .badTarget
  else none

/-- R30 to R32: a CLAIM is taken. -/
def State.takeClaim (f : RxFrame) (s : State) : State :=
  match f.mode? with
  | none => s.refuse .badMode f
  | some m =>
    if s.record.lostGrant f.source f.epoch then s.refuse .taken f
    else s.carryOut (s.record.auth.judgeClaim f.source m (decide (f.epoch = s.record.epoch))) f

/-- R30, R31, R34: a SEIZE is taken. -/
def State.takeSeize (f : RxFrame) (s : State) : State :=
  match f.mode? with
  | none => s.refuse .badMode f
  | some m =>
    if s.settings.seniorSet.contains f.source = false then s.refuse .notSenior f
    else if s.record.lostGrant f.source f.epoch then s.refuse .taken f
    else s.carryOut (s.record.auth.judgeSeize f.source m s.standstill) f

/-- R30, R31, R37: an ACCEPT is taken. One that passes the lost-grant test is answered by the last GRANT again. -/
def State.takeAccept (f : RxFrame) (s : State) : State :=
  match f.mode? with
  | none => s.refuse .badMode f
  | some m =>
    if s.record.lostGrant f.source f.epoch then
      match s.record.lastGrant with
      | some g => s.sendGrant g
      | none => s
    else s.carryOut (s.record.auth.judgeAccept f.source m (decide (f.epoch = s.record.epoch))) f

/-- R30, R35, R36: an OFFER is taken: it enters TRANSFER, or replaces the incoming party in TRANSFER. -/
def State.takeOffer (f : RxFrame) (s : State) : State :=
  match f.mode? with
  | none => s.refuse .badMode f
  | some m =>
    match s.record.auth.judgeOffer f.source f.dest s.station (decide (f.epoch = s.record.epoch)) with
    | some r => s.refuse r f
    | none =>
      let incoming : Incoming :=
        { party := Party.ofCode f.dest, mode := m, deadline := s.now + s.offerSpan (f.halfAt 1) }
      match s.record.auth with
      | .held h hm _ => s.changeState (.transfer h hm incoming)
      | .transfer h hm _ => { s with record := { s.record with auth := .transfer h hm incoming } }.announce
      | .free | .assist .. | .orphan .. => s

/-- R39: a WITHDRAW is taken, or ignored. -/
def State.takeWithdraw (f : RxFrame) (s : State) : State :=
  match s.record.auth with
  | .transfer h m _ =>
    if f.source = h ∧ f.epoch = s.record.epoch then s.changeState (.held h m none) else s
  | .free | .held .. | .assist .. | .orphan .. => s

/-- R41: a RELEASE is taken: a grant to none, or a refusal. -/
def State.takeRelease (f : RxFrame) (s : State) : State :=
  if s.record.auth.holder? ≠ some f.source then s.refuse .notHolder f
  else if f.epoch ≠ s.record.epoch then s.refuse .staleEpoch f
  else s.makeGrant none

/-- R47, R164: a CLEAR is taken, or refused. -/
def State.takeClear (f : RxFrame) (s : State) : State :=
  if s.record.auth.current? ≠ some f.source then s.refuse .notHolder f
  else if f.epoch ≠ s.record.epoch then s.refuse .staleEpoch f
  else if s.chainClosed = false then s.refuse .chainOpen f
  else if s.discrete.latch.isSome then s.clearLatch
  else s

/-- R105, R107, R126, R147: a DRIVE or SUPERVISE frame: when it is a good holder frame the Monitor takes it, a
SUPERVISE frame sets the permit (a permit set to no is a lowering event), and the Relay builds its record. -/
def State.takeHolderFrame (f : RxFrame) (s : State) : State :=
  if s.isGoodFrame f then
    let t := s.monitorTake f
    let t :=
      if f.kind = .supervise then
        let u := { t with envelope := { t.envelope with permit := decide (f.at 0 = 1) } }
        if f.at 0 = 1 then u else u.evaluate .lowering
      else t
    t.relayTake f
  else s

/-- Table 2-6: a frame given to the loader's blocks. -/
def State.loaderTakes (f : RxFrame) (s : State) : State :=
  match f.kind with
  | .claim => s.takeClaim f
  | .seize => s.takeSeize f
  | .offer => s.takeOffer f
  | .accept => s.takeAccept f
  | .decline => s
  | .withdraw => s.takeWithdraw f
  | .release => s.takeRelease f
  | .drive | .supervise => s.takeHolderFrame f
  | .stop => s.setLatch (.frame (f.at 0) f.source)
  | .clear => s.takeClear f
  | .grant | .refuse | .status | .assistCall => s

/-- R10: delivery in loader role: by the loader field, or a STOP whose loader field is 0. -/
def State.deliverLoader (f : RxFrame) (s : State) : State :=
  if f.loader = s.station ∨ (f.kind = .stop ∧ f.loader = 0) then s.loaderTakes f else s

/-! ### The commands of the record's timers -/

/-- TRANSFER_DEADLINE_EXPIRY (R40). -/
def execTransferDeadlineExpiry (s : State) : Host.Outcome State Fault Refusal :=
  .next <|
    match s.activeAs .loader, s.record.auth with
    | true, .transfer h m i => (s.reach i.deadline).changeState (.held h m (some ⟨i.party, i.mode⟩))
    | _, _ => s

/-- RECLAIM_DEADLINE_EXPIRY (R43). -/
def execReclaimDeadlineExpiry (s : State) : Host.Outcome State Fault Refusal :=
  .next <|
    match s.activeAs .loader, s.record.auth with
    | true, .orphan _ _ deadline => (s.reach deadline).makeGrant none
    | _, _ => s

/-- R44, R45: the ASSIST_CALL frame to the home pool. -/
def State.callAssist (location : Half) (s : State) : State :=
  s.give (TxFrame.make .assistCall (64 + s.settings.homePool) s.station s.record.epoch (bytesOfHalf location))

/-- ASSIST_REPEAT_EXPIRY (R45). -/
def execAssistRepeatExpiry (s : State) : Host.Outcome State Fault Refusal :=
  .next <|
    match s.activeAs .loader, s.record.auth with
    | true, .assist h location due =>
      let t := s.reach due
      { t with record := { t.record with auth := .assist h location (t.now + Config.assistRepeat) } }.callAssist
        location
    | _, _ => s

/-- STATUS_TIMER_EXPIRY (R27): a STATUS is given, and the timer waits for the next completion. -/
def execStatusTimerExpiry (s : State) : Host.Outcome State Fault Refusal :=
  .next <|
    match s.activeAs .loader, s.record.statusTimer with
    | true, some due =>
      let t := s.reach due
      { t with record := { t.record with statusTimer := none } }.sendStatus
    | _, _ => s

/-- R42: a lapse reported by the Freshness Monitor: HELD, TRANSFER and ASSIST become ORPHAN. -/
def State.lapse (s : State) : State :=
  match s.record.auth.current?, s.record.auth.mode? with
  | some h, some m => s.changeState (.orphan h m (s.now + sec s.settings.tr))
  | _, _ => s

/-- LAPSE_TIMER_EXPIRY (R112). -/
def execLapseTimerExpiry (s : State) : Host.Outcome State Fault Refusal :=
  .next <|
    match s.activeAs .loader, s.monitor.lapse with
    | true, some due =>
      let t := s.reach due
      { t with monitor := { t.monitor with lapse := none } }.lapse
    | _, _ => s

/-! ### The machine controller's requests -/

/-- R44: ASSIST_RAISE is carried out in a SUPERVISE hold in HELD. -/
def State.raiseAssist (location : Half) (s : State) : State × Answer :=
  match s.record.auth with
  | .held h .supervise _ =>
    ((s.callAssist location).changeState (.assist h location (s.now + Config.assistRepeat)), { code := .ok })
  | .held _ .drive _ | .free | .transfer .. | .assist .. | .orphan .. => (s, { code := .notSupervised })

/-- ASSIST_RAISE (R44). -/
def execAssistRaise (tag : Byte) (location : Half) (s : State) : Host.Outcome State Fault Refusal :=
  .next (s.request 0x31 tag true (some .loader) (State.raiseAssist location))

/-- R46: ASSIST_CANCEL is carried out in ASSIST. -/
def State.cancelAssist (s : State) : State × Answer :=
  match s.record.auth with
  | .assist h _ _ => (s.changeState (.held h .supervise none), { code := .ok })
  | .free | .held .. | .transfer .. | .orphan .. => (s, { code := .notAssist })

/-- ASSIST_CANCEL (R46). -/
def execAssistCancel (tag : Byte) (s : State) : Host.Outcome State Fault Refusal :=
  .next (s.request 0x32 tag true (some .loader) State.cancelAssist)

/-- The last lapsed offer, present in HELD (Table 3-2). -/
def Authority.lapsed? : Authority → Option LapsedOffer
  | .held _ _ o => o
  | .free | .transfer .. | .assist .. | .orphan .. => none

/-- The reclaim deadline, present in ORPHAN. -/
def Authority.reclaim? : Authority → Option Nat
  | .orphan _ _ d => some d
  | .free | .held .. | .transfer .. | .assist .. => none

/-- The assist location tag, present in ASSIST. -/
def Authority.location? : Authority → Option Half
  | .assist _ t _ => some t
  | .free | .held .. | .transfer .. | .orphan .. => none

/-- R50: the contents of the READ_RECORD response, each field that may be absent with its presence mark. R50
names neither the link figure nor the alert (log entry 40). -/
def State.recordContents (s : State) : List Byte :=
  let a := s.record.auth
  let g := s.record.lastGrant
  [a.state.code] ++ marked1 (a.mode?.map modeCode) ++
  marked1 (a.holder?.map byte) ++ [byteOfBool a.suspended] ++ bytesOfHalf s.record.epoch ++
  marked1 (a.incoming?.map (byte ·.party.code)) ++ marked1 (a.incoming?.map (modeCode ·.mode)) ++
  marked2 (a.incoming?.map (s.remaining ·.deadline)) ++
  marked2 (g.map (·.epoch)) ++ marked1 (g.map (byte <| ·.holder.getD 0)) ++ marked1 (g.map (modeCode? ·.mode)) ++
  marked1 (g.map (byte <| ·.previous.getD 0)) ++
  marked1 (a.lapsed?.map (byte ·.party.code)) ++ marked1 (a.lapsed?.map (modeCode ·.mode)) ++
  marked2 (a.reclaim?.map s.remaining) ++ marked2 a.location?

/-- R50: READ_RECORD is carried out. -/
def State.readRecord (s : State) : State × Answer := (s, { code := .ok, contents := s.recordContents })

/-- READ_RECORD (R50). -/
def execReadRecord (tag : Byte) (s : State) : Host.Outcome State Fault Refusal :=
  .next (s.request 0x34 tag true (some .loader) State.readRecord)

end Sys2Proof.Machine
end

