-- ==== Sys2Proof/Machine/Line.lean ====
section
/-!
DEFINITION. The commands of the Line Interface Unit (chapter 2): receptions and their delivery, channel access, and
sendings.
-/

namespace Sys2Proof.Machine

/-! ### Delivery in chair role (R11, Table 2-7) -/

/-- R11: whether a destination is a pool of the chair's pool set. -/
def State.poolReaches (dest : Nat) (s : State) : Bool := decide (64 < dest) && s.inPools (dest - 64)

/-- R11: a GRANT at a chair. -/
def State.chairGrant (f : RxFrame) (s : State) : State :=
  match s.entry? f.loader with
  | some e => s.grantAtEngine e f
  | none =>
    if s.isBoarded f.loader then s.grantAtBoard f
    else if (f.at 0).toNat = s.station then s.disown f
    else s

/-- R11, R115: a STATUS at a chair: the Monitor before the Engine. -/
def State.chairStatus (f : RxFrame) (s : State) : State :=
  match s.entry? f.loader with
  | some e => (s.statusAtMonitor e f).statusAtEngine e f
  | none => if (f.at 2).toNat = s.station then s.disown f else s

/-- R11: an ASSIST_CALL at a chair. -/
def State.chairAssist (f : RxFrame) (s : State) : State :=
  match s.entry? f.loader with
  | some e => s.assistAtEngine e f
  | none => if s.poolReaches f.dest then s.boardAssist f else s

/-- R11: a REFUSE or DECLINE addressed to this chair, taken by `act` when its loader is held. -/
def State.chairAnswer (act : Entry → RxFrame → State → State) (f : RxFrame) (s : State) : State :=
  if f.dest = s.station then
    match s.entry? f.loader with
    | some e => act e f s
    | none => s
  else s

/-- R11, Table 2-7: delivery in chair role. -/
def State.deliverChair (f : RxFrame) (s : State) : State :=
  match f.kind with
  | .offer => if f.dest = s.station ∨ s.poolReaches f.dest = true then s.boardOffer f else s
  | .withdraw => s.withdrawAtBoard f
  | .assistCall => s.chairAssist f
  | .grant => s.chairGrant f
  | .status => s.chairStatus f
  | .refuse => s.chairAnswer State.refuseAtEngine f
  | .decline => s.chairAnswer State.declineAtEngine f
  | .drive | .supervise | .claim | .seize | .accept | .release | .stop | .clear => s

/-! ### Receptions (R2, R8, R9) -/

/-- R9: a frame that carries this unit's own station as its source. -/
def State.duplicate (s : State) : State :=
  let t := s.raise .duplicateStation
  match s.startup.role with
  | .loader => t.setLatch .duplicate
  | .chair => t

/-- R9 to R11: a frame that has passed the receive check. -/
def State.takeFrame (f : RxFrame) (s : State) : State :=
  if f.source = s.station then s.duplicate
  else
    match s.startup.role with
    | .loader => s.deliverLoader f
    | .chair => s.deliverChair f

/-- R8: a received frame is judged by the receive check, and counted when it fails. -/
def State.judgeFrame (buffer : List Byte) (count : Nat) (s : State) : State :=
  match receiveCheck buffer count with
  | none => { s with liu := { s.liu with badFrames := min 65535 (s.liu.badFrames + 1) } }
  | some f => s.takeFrame f

/-- R2: a carrier that the LIU hears begins a reception, and the receive buffer is empty. -/
def Liu.beginReception (q : Liu) : Liu := { q with receiving := true, rxBuffer := [], rxCount := 0 }

/-- R20: the line-blocked timer starts. -/
def Liu.startBlocked (now : Nat) (q : Liu) : Liu := { q with blocked := some (now + Config.lineBlocked) }

/-- R2: the carrier has gone: the reception, if one was under way, is over and the buffer empty. -/
def Liu.endReception (q : Liu) : Liu := { q with lcd := false, receiving := false, rxBuffer := [], rxCount := 0 }

/-- R2: the LIU hears the line: the part receives, and LKEY is low. Receiving does not wait for the activation, which
R21 asks of judging, of channel access and of the line-blocked timer alone (log entry 18). -/
def State.hearsLine (s : State) : Bool := s.inService && !s.liu.lkey

/-- R16, R17: what a rise of LCD does to channel access: a wait is given up with the candidate's window doubled. -/
def Liu.accessRise (q : Liu) : Liu :=
  match q.access with
  | .wait _ => { q.doubleHead with access := .gap }
  | .idle | .gap | .sending _ => q

/-- LCD_RISE (R2, R17, R20, R21). A reception begins, and in an active LIU the line-blocked timer starts and channel
access gives way. While LKEY is raised or the part is held only the level of the pin changes. -/
def execLcdRise (s : State) : Host.Outcome State Fault Refusal :=
  .next <|
    if s.liu.lcd then s
    else
      let q := { s.liu with lcd := true }
      let heard := if s.hearsLine then q.beginReception else q
      { s with liu := if s.hearsLine && s.active then (heard.startBlocked s.now).accessRise else heard }

/-- RECEPTION_COMPLETE (R2, R8, R16, R20, R21): the fall of LCD. An active LIU judges the reception under way; an inactive
one empties the buffer without judging it. -/
def execReceptionComplete (s : State) : Host.Outcome State Fault Refusal :=
  .next <|
    if s.liu.lcd = false then s
    else if s.hearsLine then
      if s.active then
        let t := { s with liu := { s.liu.endReception with gapFrom := s.now, blocked := none } }
        if s.liu.receiving then t.judgeFrame s.liu.rxBuffer s.liu.rxCount else t
      else { s with liu := s.liu.endReception }
    else { s with liu := { s.liu with lcd := false } }

/-- LRXD_BYTE_RECEIVED (R2): a byte of the spell of carrier is counted, and stored up to the 26th. -/
def execLrxdByteReceived (byte : Byte) (s : State) : Host.Outcome State Fault Refusal :=
  .next <|
    if s.hearsLine && s.liu.lcd && s.liu.receiving then
      { s with liu := { s.liu with
          rxBuffer :=
            if s.liu.rxBuffer.length < Config.rxBufferSize then s.liu.rxBuffer ++ [byte] else s.liu.rxBuffer
          rxCount := s.liu.rxCount + 1 } }
    else s

/-- LINE_BLOCKED_EXPIRY (R20). -/
def execLineBlockedExpiry (s : State) : Host.Outcome State Fault Refusal :=
  .next <|
    match s.active, s.liu.blocked with
    | true, some due =>
      let t := (s.reach due).raise .lineBlocked
      { t with liu := { t.liu with blocked := some (t.now + Config.lineBlocked) } }
    | _, _ => s

/-! ### Channel access (R16, R17) -/

/-- GAP_MET (R16, R17): LCD has been low for 3 ms. -/
def execGapMet (s : State) : Host.Outcome State Fault Refusal :=
  .next <|
    match s.active && !s.liu.lcd, s.liu.access with
    | true, .gap =>
      let t := s.reach (s.liu.gapFrom + Config.gap)
      { t with liu := t.liu.enterWait t.now t.station }
    | _, _ => s

/-- R3, R12, R18: the sending of the head of the queue begins: it leaves the queue, its source, sequence, length and
check are filled, and LKEY is raised. -/
def Liu.beginSending (now station : Nat) (q : Liu) : Liu :=
  match q.head? with
  | none => { q with access := .idle }
  | some f =>
    { q.dropHead with
      lkey := true
      access := .sending
        { frame := f, bytes := f.bytes station q.sequence, started := now, leadOver := false } }

/-- WAIT_EXPIRY (R17, R18). -/
def execWaitExpiry (s : State) : Host.Outcome State Fault Refusal :=
  .next <|
    match s.active && !s.liu.lcd, s.liu.access with
    | true, .wait due =>
      let t := s.reach due
      { t with liu := t.liu.beginSending t.now t.station }
    | _, _ => s

/-! ### Sendings (R1, R18) -/

/-- KEY_UP_LEAD_EXPIRY (R1): the bytes of the frame go out on LTXD. -/
def execKeyUpLeadExpiry (s : State) : Host.Outcome State Fault Refusal :=
  .next <|
    match s.active, s.liu.access with
    | true, .sending out =>
      if out.leadOver then s
      else
        let t := s.reach (out.started + Config.keyUpLead)
        { t with liu := { t.liu with access := .sending { out with leadOver := true }, ltxd := out.bytes } }
    | _, _ => s

/-- R1: the moment a sending is complete: the lead and 10 bit times of 9,600 bit/s for each byte (log entry 31). -/
def Sending.endsAt (out : Sending) : Nat := out.started + Config.keyUpLead + out.bytes.length * 3125 / 3

/-- R18: the block that gave the frame is informed that it has been sent. -/
def State.informSent (owner : FrameOwner) (s : State) : State :=
  match owner with
  | .plain => s
  | .status => { s with record := { s.record with statusTimer := some (s.now + s.statusPeriod) } }
  | .outstanding ref => s.outstandingSent ref
  | .offer ref => s.offerSent ref
  | .stop => State.giveStop { s with discrete := { s.discrete with stopOutstanding := false } }
  | .clear => { s with discrete := { s.discrete with clearUnsent := false } }

/-- R1, R2, R18, R19, R20: the lowering of LKEY: the sequence counter moves on, and a raised LCD counts as a rise. -/
def Liu.lowerKey (now : Nat) (q : Liu) : Liu :=
  let q := { q with lkey := false, ltxd := [], sequence := q.sequence + 1, gapFrom := now }
  if q.lcd then q.beginReception.startBlocked now else q

/-- R18: access after a sending: GAP if the queue holds a frame and IDLE if it is empty. -/
def Liu.afterSending (now station : Nat) (q : Liu) : Liu :=
  if q.queueEmpty then { q with access := .idle } else q.enterGap now station

/-- R18: a sending is complete. -/
def State.sendingDone (out : Sending) (s : State) : State :=
  let t := s.reach out.endsAt
  let t := State.informSent out.frame.owner { t with liu := t.liu.lowerKey t.now }
  { t with liu := t.liu.afterSending t.now t.station }

/-- SENDING_COMPLETE (R18). -/
def execSendingComplete (s : State) : Host.Outcome State Fault Refusal :=
  .next <|
    match s.active, s.liu.access with
    | true, .sending out => if out.leadOver then s.sendingDone out else s
    | _, _ => s

end Sys2Proof.Machine
end

