-- ==== Sys2Proof/Machine/LocalLink.lean ====
section
/-!
DEFINITION. The requests that the Local Link carries out itself (chapter 10), REPORT among them, and the events of its
receiver and request slot that the table lists as commands of their own.
-/

namespace Sys2Proof.Machine

/-! ### READ_IDENTITY, READ_COUNTERS (R177) -/

/-- R177: the strapped role as reported: 1 chair, 2 loader. -/
def roleCode : Role → Byte
  | .chair => 1
  | .loader => 2

/-- R177: READ_IDENTITY is carried out. -/
def State.readIdentity (s : State) : State × Answer :=
  (s, { code := .ok
        contents := bytesOfHalf Config.partCode ++ [Config.revision, roleCode s.startup.role, byte s.station] })

/-- READ_IDENTITY (R177). -/
def execReadIdentity (tag : Byte) (s : State) : Host.Outcome State Fault Refusal :=
  .next (s.request 0x01 tag true none State.readIdentity)

/-- R177: the contents of READ_COUNTERS, in the rule's order. -/
def State.counterContents (s : State) : List Byte :=
  bytesOfNat16 s.liu.badFrames ++
    [byte s.link.linkErrors, byte s.link.noticeOverflow, byte s.link.notices.length, byte s.link.credit,
      byteOfBool s.link.mark.isSome, byte (s.link.mark.getD 0), byte s.discrete.stopList.length]

/-- R177: READ_COUNTERS is carried out. -/
def State.readCounters (s : State) : State × Answer := (s, { code := .ok, contents := s.counterContents })

/-- READ_COUNTERS (R177). -/
def execReadCounters (tag : Byte) (s : State) : Host.Outcome State Fault Refusal :=
  .next (s.request 0x06 tag true none State.readCounters)

/-! ### READ_FLAGS, SET_MASK (R186, R187) -/

/-- R186: READ_FLAGS is carried out: the flags as they stood are reported, then the named ones are cleared. -/
def State.readFlags (named : Half) (s : State) : State × Answer :=
  ({ s with link := s.link.clearFlags named (decide (s.startup.condition = .faultHold)) },
   { code := .ok, contents := bytesOfHalf s.link.flags })

/-- READ_FLAGS (R186). -/
def execReadFlags (tag : Byte) (flags : Half) (s : State) : Host.Outcome State Fault Refusal :=
  .next (s.request 0x02 tag true none (State.readFlags flags))

/-- R187: SET_MASK is carried out; the mask as it now stands is reported. -/
def State.setMask (named : Half) (s : State) : State × Answer :=
  let k := s.link.setMask named
  ({ s with link := k }, { code := .ok, contents := bytesOfHalf k.mask })

/-- SET_MASK (R187). -/
def execSetMask (tag : Byte) (mask : Half) (s : State) : Host.Outcome State Fault Refusal :=
  .next (s.request 0x03 tag true none (State.setMask mask))

/-! ### ADD_CREDIT, MARK (R181, R183) -/

/-- R181: ADD_CREDIT is carried out: the credit grows, at most to 255, and an idle transmitter starts the head of the
notice queue at once. The credit after the addition is reported. -/
def State.addCredit (n : Byte) (s : State) : State × Answer :=
  let credit := min 255 (s.link.credit + n.toNat)
  ({ s with link := Link.start s.now { s.link with credit } }, { code := .ok, contents := [byte credit] })

/-- ADD_CREDIT (R181). -/
def execAddCredit (tag n : Byte) (s : State) : Host.Outcome State Fault Refusal :=
  .next (s.request 0x04 tag true none (State.addCredit n))

/-- R183: the notices that have not completed their sending: those queued and one in its sending. -/
def Link.unsentNotices (k : Link) : Nat :=
  k.notices.length + (if k.tx.map (·.what) = some .notice then 1 else 0)

/-- R183: MARK is carried out. -/
def State.placeMark (s : State) : State × Answer :=
  if s.link.mark.isSome then (s, { code := .busy })
  else if s.link.unsentNotices = 0 then (s.raise .markDone, { code := .ok, contents := [0] })
  else
    ({ s with link := { s.link with mark := some s.link.unsentNotices } },
     { code := .ok, contents := [byte s.link.unsentNotices] })

/-- MARK (R183). -/
def execMark (tag : Byte) (s : State) : Host.Outcome State Fault Refusal :=
  .next (s.request 0x05 tag true none State.placeMark)

/-! ### RESTART (R178) -/

/-- R178: RESTART is carried out: the restart begins when its response has been sent. -/
def State.askRestart (kind : Byte) (s : State) : State × Answer :=
  if kind = 1 then
    if s.startup.condition = .faultHold then (s, { code := .configFault })
    else ({ s with link := { s.link with restart := some .soft } }, { code := .ok })
  else if kind = 2 then ({ s with link := { s.link with restart := some .full } }, { code := .ok })
  else (s, { code := .badValue })

/-- RESTART of kind 1 (R178). -/
def execRestartSoft (tag : Byte) (s : State) : Host.Outcome State Fault Refusal :=
  .next (s.request 0x07 tag true none (State.askRestart 1))

/-- RESTART of kind 2 (R178). -/
def execRestartFull (tag : Byte) (s : State) : Host.Outcome State Fault Refusal :=
  .next (s.request 0x07 tag true none (State.askRestart 2))

/-! ### REPORT (R179) -/

/-- R179: the zone byte: 255 is zone none, 251 to 254 count as 250. -/
def zoneOf (z : Byte) : Option Nat := if z = 255 then none else some (min 250 z.toNat)

/-- R179: the zone as it is kept, as a byte. -/
def zoneByte (z : Option Nat) : Byte := match z with | none => 255 | some v => byte v

/-- R179: REPORT is carried out: the last report is replaced, the Envelope makes its lowering evaluation and the Relay
acts by R151; the values as kept and the cap in force are reported. -/
def State.takeReport (speed location : Half) (zone : Byte) (s : State) : State × Answer :=
  let report : Report := { speed, location, zone := zoneOf zone, arrived := s.now }
  let t := (State.evaluate .lowering { s with link := { s.link with lastReport := some report } }).relayLowered s
  (t, { code := .ok
        contents := bytesOfHalf speed ++ bytesOfHalf location ++ [zoneByte (zoneOf zone), byte t.envelope.cap] })

/-- REPORT (R179). -/
def execReport (tag : Byte) (speed location : Half) (zone : Byte) (s : State) : Host.Outcome State Fault Refusal :=
  .next (s.request 0x30 tag true (some .loader) (State.takeReport speed location zone))

/-! ### The request slot and the receiver (R173 to R175) -/

/-- REQUEST_WHILE_BUSY (R174): a request whose check agrees arrives while the slot is busy. -/
def execRequestWhileBusy (kind tag : Byte) (s : State) : Host.Outcome State Fault Refusal :=
  .next <|
    if s.inService && s.link.slotBusy then
      State.answerBusy kind tag { s with link := { s.link with receiver := .hunt } }
    else s

/-- R175: what an unknown kind is carried out as: nothing, since check 1 has failed. -/
def State.noRequest (s : State) : State × Answer := (s, { code := .badValue })

/-- UNKNOWN_REQUEST_KIND (R175): a request whose kind is in no row of Table 10-4. -/
def execUnknownRequestKind (kind tag : Byte) (s : State) : Host.Outcome State Fault Refusal :=
  .next (s.request kind tag false none State.noRequest)

/-- R173: a message is discarded: the receiver returns to HUNT, LINK_ERROR is raised and the link-error counter moves
up, saturating at 255. -/
def State.discardMessage (s : State) : State :=
  State.raise .linkError
    { s with link := { s.link with receiver := .hunt, linkErrors := min 255 (s.link.linkErrors + 1) } }

/-- LOCAL_MESSAGE_DISCARDED (R173). -/
def execLocalMessageDiscarded (s : State) : Host.Outcome State Fault Refusal :=
  .next (if s.inService then s.discardMessage else s)

/-- R173: the moment of the last byte of the message under way. -/
def Receiver.lastByte? : Receiver → Option Nat
  | .hunt => none
  | .length last => some last
  | .body _ _ last => some last

/-- INTER_BYTE_TIMEOUT (R173): 2 ms have passed since the last byte of the message under way. -/
def execInterByteTimeout (s : State) : Host.Outcome State Fault Refusal :=
  .next <|
    match s.inService, s.link.receiver.lastByte? with
    | true, some last => (s.reach (last + Config.interByte)).discardMessage
    | _, _ => s

end Sys2Proof.Machine
end

