-- ==== Sys2Proof/Machine/Receiver.lean ====
section
/-!
DEFINITION. The receiver of the local link (R173): the bytes from LLRX, the messages they make, and the dispatch of a
message to the request it spells (Table 10-4). A request row of the table and a message made of bytes carry out the same
definitions (log entry 14).
-/

namespace Sys2Proof.Machine

/-- Table 10-4: the role of a request and what carries it out, for a kind and a body of that request's length. -/
def requestAct (kind : Byte) (body : List Byte) : Option (RequestRole × (State → State × Answer)) :=
  match kind.toNat, body with
  | 0x01, [] => some (none, State.readIdentity)
  | 0x02, [a, b] => some (none, State.readFlags (halfOf a b))
  | 0x03, [a, b] => some (none, State.setMask (halfOf a b))
  | 0x04, [n] => some (none, State.addCredit n)
  | 0x05, [] => some (none, State.placeMark)
  | 0x06, [] => some (none, State.readCounters)
  | 0x07, [k] => some (none, State.askRestart k)
  | 0x10, [st, a, b, bo, bu] => some (some .chair, State.takeAxes st (halfOf a b) bo bu)
  | 0x11, [l, m] => some (some .chair, State.claim l m)
  | 0x12, [l, m] => some (some .chair, State.setMode l m)
  | 0x13, [l, t, m, a, b] => some (some .chair, State.offer l t m (halfOf a b))
  | 0x14, [l] => some (some .chair, State.withdraw l)
  | 0x15, [l] => some (some .chair, State.release l)
  | 0x16, [l, m] => some (some .chair, State.seize l m)
  | 0x17, [l] => some (some .chair, State.pause l)
  | 0x18, [l] => some (some .chair, State.resume l)
  | 0x19, [l] => some (some .chair, State.stopLoader l)
  | 0x1A, [] => some (some .chair, State.stopEvery)
  | 0x1B, [l] => some (some .chair, State.clear l)
  | 0x1C, [l] => some (some .chair, State.acceptItem l)
  | 0x1D, [l] => some (some .chair, State.declineItem l)
  | 0x1E, [l] => some (some .chair, State.dismissItem l)
  | 0x1F, [] => some (some .chair, State.standDown)
  | 0x20, [] => some (some .chair, State.standUp)
  | 0x21, [] => some (some .chair, State.readHolds)
  | 0x22, [] => some (some .chair, State.readBoard)
  | 0x30, [a, b, c, d, z] => some (some .loader, State.takeReport (halfOf a b) (halfOf c d) z)
  | 0x31, [a, b] => some (some .loader, State.raiseAssist (halfOf a b))
  | 0x32, [] => some (some .loader, State.cancelAssist)
  | 0x33, [] => some (some .loader, State.localStop)
  | 0x34, [] => some (some .loader, State.readRecord)
  | _, _ => none

/-- R174, R175: a message whose check agrees reaches the request slot. -/
def State.messageArrives (kind tag : Byte) (body : List Byte) (s : State) : State :=
  match requestAct kind body with
  | some (role, act) => s.request kind tag true role act
  | none => s.request kind tag false none State.noRequest

/-- R173: the last check byte has come: the message, from its kind on, is judged by its check. -/
def State.judgeMessage (length : Nat) (got : List Byte) (s : State) : State :=
  if checkBytes (byte length :: got.take length) = got.drop length then
    State.messageArrives (got.getD 0 0) (got.getD 1 0) ((got.take length).drop 2)
      { s with link := { s.link with receiver := .hunt } }
  else s.discardMessage

/-- R173: a byte with a good stop bit, by the receiver's state. -/
def State.takeByte (b : Byte) (s : State) : State :=
  let put (r : Receiver) : State := { s with link := { s.link with receiver := r } }
  match s.link.receiver with
  | .hunt => if b = 0xA5 then put (.length s.now) else s
  | .length _ => if 2 ≤ b.toNat ∧ b.toNat ≤ 34 then put (.body b.toNat [] s.now) else s.discardMessage
  | .body n got _ =>
    if got.length + 1 = n + 2 then s.judgeMessage n (got ++ [b]) else put (.body n (got ++ [b]) s.now)

/-- R173: whether a byte with a low stop bit belongs to a message: one is under way, or the byte would begin one (log
entry 15). -/
def State.spoils (b : Byte) (s : State) : Bool := decide (s.link.receiver ≠ .hunt) || decide (b = 0xA5)

/-- R173: more than 2 ms have passed since the last byte of the message under way (log entry 15). -/
def State.byteLate (s : State) : Bool :=
  match s.link.receiver.lastByte? with
  | none => false
  | some last => decide (Config.interByte < s.now - last)

/-- LLRX_BYTE_RECEIVED (R173). -/
def execLlrxByteReceived (byte : Byte) (stopBit : Bool) (s : State) : Host.Outcome State Fault Refusal :=
  .next <|
    if s.inService then
      let t := if s.byteLate then s.discardMessage else s
      if stopBit then t.takeByte byte else if t.spoils byte then t.discardMessage else t
    else s

end Sys2Proof.Machine
end

