-- ==== Sys2Proof/Machine/Startup.lean ====
section
/-!
DEFINITION. Start-up and Configuration (chapter 11): the restarts, the configuration load, the decoding of the settings
block, the activation of the unit, and the completion of a message on LLTX, at which a requested restart begins.
-/

namespace Sys2Proof.Machine

/-! ### Restarts (R193, R194, Table 10-8) -/

/-- R2, R12, R19 to R22, R193: the LIU's restart values, under the LCD pin as it stands. The partial frame of a reception
under way is discarded. In a part that receives, a restart that lowers LKEY under a raised LCD begins a reception, as
every lowering does; one that holds the part begins none (log entry 18). -/
def Liu.restart (receives : Bool) (q : Liu) : Liu := { lcd := q.lcd, receiving := receives && q.lkey && q.lcd }

/-- R24, R51, R83, R104, R119, R137, R144, R155, R188, R193: what a pin, full or soft restart does to the blocks: each
takes its restart values; the LCD pin keeps its level, the stop latch is kept and COLD_START stays as it stood. -/
def State.restartBlocks (s : State) : State :=
  { s with
    liu := s.liu.restart s.inService
    record := {}
    monitor := {}
    envelope := {}
    relay := {}
    holds := {}
    board := {}
    discrete := { latch := s.discrete.latch }
    link := Link.judgeAttn { flags := s.link.flags &&& EventFlag.coldStart.set } }

/-- R190, R194: a loading restart begins: the condition is LOADING, and a load under way is abandoned. R190 discards the
straps it has read and gives the fields no value: the model keeps the role and the station until the next load reads
them (DESIGN CHOICE, log entry 5). -/
def State.enterLoading (s : State) : State :=
  { s.restartBlocks with startup := { s.startup with condition := .loading, load := .idle } }

/-- R160: ATTN while the supply is up: high while RESET holds the part, else by the attention condition. -/
def State.settleAttn (s : State) : State :=
  { s with link := if s.startup.resetLow then { s.link with attn := false } else s.link.judgeAttn }

/-- R161, R188, R194: a power-on restart: the stop latch is cleared, COLD_START is raised and the 20 ms hold runs. -/
def State.powerOn (s : State) : State :=
  let t := State.enterLoading
    { s with startup := { s.startup with powered := true, hold := some (s.now + Config.powerOnHold) } }
  State.settleAttn
    { t with
      discrete := { t.discrete with latch := none }
      link := { t.link with flags := EventFlag.coldStart.set } }

/-! ### Activation (R20, R21, R24, R119, R137, R155, R188) -/

/-- R2, R20, R21: the LIU becomes active. A reception under way goes on, and will be judged at its end. -/
def Liu.activate (now : Nat) (q : Liu) : Liu :=
  { q with gapFrom := now, blocked := if q.lcd then some (now + Config.lineBlocked) else none }

/-- R24, R119, R188: what the activation does in loader role: the envelope interval starts, a STATUS and a STATE notice
are given, and STOP_SET is raised when the latch is found set. -/
def State.activateLoader (s : State) : State :=
  let t := { s with envelope := { s.envelope with timer := some (s.now + s.periods 1) } }
  let t := t.sendStatus.postState
  if t.discrete.latch.isSome then t.raise .stopSet else t

/-- R137: what the activation does in chair role: the drive interval starts. -/
def State.activateChair (s : State) : State :=
  { s with relay := { s.relay with driveTimer := some (s.now + s.periods 1) } }

/-- R21: the LIU and with it every block becomes active. -/
def State.activate (s : State) : State :=
  let t := { s with
    liu := s.liu.activate s.now
    discrete := { s.discrete with nextSample := some (s.now + Config.samplePeriod) } }
  match s.startup.role with
  | .loader => t.activateLoader
  | .chair => t.activateChair

/-- R193: a soft restart: the blocks restart, straps, settings and condition are kept, and a unit that was RUNNING is
active again at once. -/
def State.softRestart (s : State) : State :=
  let t := s.restartBlocks
  if t.startup.condition = .running then t.activate else t

/-! ### The configuration load (R189 to R191) -/

/-- R191: a load that fails puts the unit in FAULT-HOLD with CONFIG_FAULT raised. -/
def State.loadFails (s : State) : State :=
  State.raise .configFault { s with startup := { s.startup with condition := .faultHold, load := .idle } }

/-- R189, R190: a load begins: the straps are read; station 0 fails the load at once, otherwise the memory status is
read. In chair role the stop latch stays clear (R161): the load that reads the chair strap clears it (log entry 37). -/
def State.beginLoad (straps : Straps) (s : State) : State :=
  let t := { s with
    startup := { s.startup with
      condition := .loading
      role := if straps.role then .loader else .chair
      station := straps.station.toNat
      load := .readingStatus 0 }
    discrete := { s.discrete with latch := if straps.role then s.discrete.latch else none } }
  if straps.station = 0 then t.loadFails else t

/-- R190: whether a status byte shows a ready memory; 00h and FFh are no answer. -/
def memoryReady (status : Byte) : Bool := !status.getLsbD 0 && decide (status ≠ 0x00 ∧ status ≠ 0xFF)

/-- MEMORY_STATUS_READ (R190): the answer to a status read. -/
def execMemoryStatusRead (status : Byte) (s : State) : Host.Outcome State Fault Refusal :=
  .next <|
    match s.inService, s.startup.load with
    | true, .readingStatus tries =>
      if memoryReady status then { s with startup := { s.startup with load := .readingBlock } }
      else if tries + 1 < Config.memoryTries then
        { s with startup := { s.startup with load := .waiting (tries + 1) (s.now + Config.memoryRetry) } }
      else s.loadFails
    | _, _ => s

/-- MEMORY_RETRY_EXPIRY (R190): the memory status is read again. -/
def execMemoryRetryExpiry (s : State) : Host.Outcome State Fault Refusal :=
  .next <|
    match s.inService, s.startup.load with
    | true, .waiting tries dueAt =>
      let t := s.reach dueAt
      { t with startup := { t.startup with load := .readingStatus tries } }
    | _, _ => s

/-! ### The settings block (R192, Table 11-2) -/

/-- Table 11-2: P takes the next lower supported value; below 50 it takes 50. -/
def clampP (b : Nat) : Nat :=
  if 200 ≤ b then 200 else if 160 ≤ b then 160 else if 125 ≤ b then 125 else if 100 ≤ b then 100
  else if 80 ≤ b then 80 else 50

/-- Table 11-2: an input's settings byte. -/
def inputSettingsOf (b : Byte) : InputSettings := { inverted := b.getLsbD 0, edge := b.getLsbD 1 }

/-- Table 11-2: the senior set: an entry of 0 or above 63 names no station. -/
def seniorSetOf (bs : List Byte) : List Nat := (bs.map (·.toNat)).filter fun n => decide (1 ≤ n ∧ n ≤ 63)

/-- R192: the settings of a block for a role, each decoded and clamped; the settings of the other role keep the values
they have (log entry 29). -/
def decodeSettings (role : Role) (block : List Byte) (old : Settings) : Settings :=
  let at' (i : Nat) : Nat := (block.getD i 0).toNat
  let common : Settings :=
    { old with
      p := clampP (at' 0)
      l := clampNat 3 15 (at' 1)
      s := clampNat 2 20 (at' 2)
      tx := clampNat 2 30 (at' 3)
      stopchain := inputSettingsOf (block.getD 18 0)
      seat := inputSettingsOf (block.getD 19 0)
      deadman := inputSettingsOf (block.getD 20 0)
      confirm := inputSettingsOf (block.getD 21 0) }
  match role with
  | .chair =>
    { common with
      g := clampNat 1 5 (at' 5)
      pools := block.getD 11 0
      senior := decide (at' 13 ≠ 0) }
  | .loader =>
    let vmax := min 250 (at' 6)
    { common with
      tr := clampNat 5 60 (at' 4)
      vmax
      vauto := min 250 (at' 7)
      vrev := min vmax (at' 8)
      vcrawl := min vmax (at' 9)
      rup := clampNat 1 50 (at' 10)
      homePool := if 1 ≤ at' 12 ∧ at' 12 ≤ 8 then at' 12 else 1
      seniorSet := seniorSetOf ((block.drop 14).take 4) }

/-- R190: whether the block's check agrees. -/
def blockAgrees (block : List Byte) : Bool := decide (checkBytes (block.take 48) = block.drop 48)

/-- R190, R192: a load that succeeds: the settings are taken, the condition becomes RUNNING and the unit active. -/
def State.loadSucceeds (block : List Byte) (s : State) : State :=
  State.activate
    { s with startup := { s.startup with
        settings := decodeSettings s.startup.role block s.startup.settings
        condition := .running
        load := .idle } }

/-- SETTINGS_BLOCK_READ (R190). -/
def execSettingsBlockRead (block : List Byte) (s : State) : Host.Outcome State Fault Refusal :=
  .next <|
    match s.inService, s.startup.load with
    | true, .readingBlock => if blockAgrees block then s.loadSucceeds block else s.loadFails
    | _, _ => s

/-! ### Supply and RESET (R194) -/

/-- POWER_ON (R194). -/
def execPowerOn (s : State) : Host.Outcome State Fault Refusal := .next s.powerOn

/-- POWER_ON_HOLD_EXPIRY (R194): the hold is over and the load begins, or waits for the rise of RESET. -/
def execPowerOnHoldExpiry (straps : Straps) (s : State) : Host.Outcome State Fault Refusal :=
  .next <|
    match s.startup.powered, s.startup.hold with
    | true, some due =>
      let t := s.reach due
      let t := { t with startup := { t.startup with hold := none } }
      if t.startup.resetLow then t else t.beginLoad straps
    | _, _ => s

/-- SUPPLY_FALL (R194): the part stops; nothing of the blocks' state is left. -/
def execSupplyFall (s : State) : Host.Outcome State Fault Refusal :=
  .next <|
    if s.startup.powered then
      let t := State.enterLoading { s with startup := { s.startup with powered := false, hold := none } }
      { t with
        discrete := { t.discrete with latch := none }
        link := {} }
    else s

/-- RESET_FALL (R194, R160): RESET has been low for `low` microseconds. Of 10 µs or more, a pin restart begins and ATTN is
driven high; a shorter low pulse is ignored. -/
def execResetFallFor (low : Nat) (s : State) : Host.Outcome State Fault Refusal :=
  .next <|
    if s.startup.resetLow ∨ low < Config.resetPulse then s
    else
      let t := { s with startup := { s.startup with resetLow := true } }
      if s.startup.powered then t.enterLoading.settleAttn else t

/-- RESET_FALL with the shortest low pulse that restarts the part (R194). -/
def execResetFall (s : State) : Host.Outcome State Fault Refusal := execResetFallFor Config.resetPulse s

/-- RESET_RISE (R194): the load begins, unless the hold of a power-on still runs; ATTN follows its condition. -/
def execResetRise (straps : Straps) (s : State) : Host.Outcome State Fault Refusal :=
  .next <|
    if s.startup.resetLow = false then s
    else
      let t := { s with startup := { s.startup with resetLow := false } }
      if s.startup.powered then
        if s.startup.hold.isSome then t.settleAttn else t.settleAttn.beginLoad straps
      else t

/-! ### The completion of a message (R174, R178, R180, R183) -/

/-- The moment the sending of a message is complete: 10 bit times of 115,200 bit/s for each byte (log entry 31). -/
def Transmission.endsAt (x : Transmission) : Nat := x.started + x.message.bytes.length * 3125 / 36

/-- R183: a notice has been sent: a pending mark has one fewer ahead of it, and completes at 0. -/
def Link.noticeSent (k : Link) : Link :=
  match k.mark with
  | none => k
  | some n => if n ≤ 1 then { k with mark := none }.raise .markDone else { k with mark := some (n - 1) }

/-- R174, R176: a message of the response in progress has been sent: the next one waits, or the slot is free. -/
def Link.responseSent (k : Link) : Link :=
  match k.parts with
  | m :: rest => { k with parts := rest, waiting := k.waiting ++ [.response m] }
  | [] => { k with slotBusy := false }

/-- R174, R180, R183: what the completion of a sending does before the next message is chosen. -/
def Link.sent (what : TxWhat) (k : Link) : Link :=
  let k := { k with tx := none }
  match what with
  | .notice => k.noticeSent
  | .response => k.responseSent
  | .busy | .record => k

/-- R178, R193, R194: a requested restart begins. -/
def State.requestedRestart (r : RequestedRestart) (straps : Straps) (s : State) : State :=
  match r with
  | .soft => s.softRestart
  | .full => s.enterLoading.beginLoad straps

/-- R178, R180: the completion of a sending: a requested restart begins once its response has been sent, otherwise the
transmitter chooses the next message. -/
def State.messageSent (straps : Straps) (x : Transmission) (s : State) : State :=
  let t := s.reach x.endsAt
  let k := t.link.sent x.what
  match k.slotBusy, k.restart with
  | false, some r => State.requestedRestart r straps { t with link := k }
  | _, _ => { t with link := k.start t.now }

/-- MESSAGE_SENT (R180). -/
def execMessageSent (straps : Straps) (s : State) : Host.Outcome State Fault Refusal :=
  .next <|
    match s.inService, s.link.tx with
    | true, some x => s.messageSent straps x
    | _, _ => s

end Sys2Proof.Machine
end

