-- ==== Sys2Proof/Machine/Dispatch.lean ====
section
/-!
DEFINITION. The dispatch: one arm for each command of the table, each a call of its meaning.
-/

namespace Sys2Proof.Machine

/-- The effect of a command on everything but the queue. -/
def exec (i : Instr) (s : State) : Host.Outcome State Fault Refusal :=
  match i with
  | .lcdRise => Sys2Proof.Machine.execLcdRise s
  | .receptionComplete => Sys2Proof.Machine.execReceptionComplete s
  | .gapMet => Sys2Proof.Machine.execGapMet s
  | .waitExpiry => Sys2Proof.Machine.execWaitExpiry s
  | .keyUpLeadExpiry => Sys2Proof.Machine.execKeyUpLeadExpiry s
  | .sendingComplete => Sys2Proof.Machine.execSendingComplete s
  | .lineBlockedExpiry => Sys2Proof.Machine.execLineBlockedExpiry s
  | .transferDeadlineExpiry => Sys2Proof.Machine.execTransferDeadlineExpiry s
  | .reclaimDeadlineExpiry => Sys2Proof.Machine.execReclaimDeadlineExpiry s
  | .assistRepeatExpiry => Sys2Proof.Machine.execAssistRepeatExpiry s
  | .statusTimerExpiry => Sys2Proof.Machine.execStatusTimerExpiry s
  | .assistRaise tag location => Sys2Proof.Machine.execAssistRaise tag location s
  | .assistCancel tag => Sys2Proof.Machine.execAssistCancel tag s
  | .readRecord tag => Sys2Proof.Machine.execReadRecord tag s
  | .standUp tag => Sys2Proof.Machine.execStandUp tag s
  | .standDown tag => Sys2Proof.Machine.execStandDown tag s
  | .claim tag loader mode => Sys2Proof.Machine.execClaim tag loader mode s
  | .setMode tag loader mode => Sys2Proof.Machine.execSetMode tag loader mode s
  | .offer tag loader target mode expiry => Sys2Proof.Machine.execOffer tag loader target mode expiry s
  | .withdraw tag loader => Sys2Proof.Machine.execWithdraw tag loader s
  | .release tag loader => Sys2Proof.Machine.execRelease tag loader s
  | .seize tag loader mode => Sys2Proof.Machine.execSeize tag loader mode s
  | .pause tag loader => Sys2Proof.Machine.execPause tag loader s
  | .resume tag loader => Sys2Proof.Machine.execResume tag loader s
  | .readHolds tag => Sys2Proof.Machine.execReadHolds tag s
  | .answerDeadlineExpiry loader => Sys2Proof.Machine.execAnswerDeadlineExpiry loader s
  | .offerDeadlineExpiry loader => Sys2Proof.Machine.execOfferDeadlineExpiry loader s
  | .itemDeadlineExpiry loader => Sys2Proof.Machine.execItemDeadlineExpiry loader s
  | .acceptItem tag loader => Sys2Proof.Machine.execAcceptItem tag loader s
  | .declineItem tag loader => Sys2Proof.Machine.execDeclineItem tag loader s
  | .dismissItem tag loader => Sys2Proof.Machine.execDismissItem tag loader s
  | .readBoard tag => Sys2Proof.Machine.execReadBoard tag s
  | .gestureWindowExpiry => Sys2Proof.Machine.execGestureWindowExpiry s
  | .lapseTimerExpiry => Sys2Proof.Machine.execLapseTimerExpiry s
  | .envelopeIntervalExpiry => Sys2Proof.Machine.execEnvelopeIntervalExpiry s
  | .absenceDeadlineExpiry loader => Sys2Proof.Machine.execAbsenceDeadlineExpiry loader s
  | .axes tag steer travel boom bucket => Sys2Proof.Machine.execAxes tag steer travel boom bucket s
  | .driveIntervalExpiry => Sys2Proof.Machine.execDriveIntervalExpiry s
  | .superviseDeadlineExpiry loader => Sys2Proof.Machine.execSuperviseDeadlineExpiry loader s
  | .filteredEdge input active => Sys2Proof.Machine.execFilteredEdge input active s
  | .indicatorFlash => Sys2Proof.Machine.execIndicatorFlash s
  | .localStop tag => Sys2Proof.Machine.execLocalStop tag s
  | .stopListDue => Sys2Proof.Machine.execStopListDue s
  | .stop tag loader => Sys2Proof.Machine.execStop tag loader s
  | .stopAll tag => Sys2Proof.Machine.execStopAll tag s
  | .clear tag loader => Sys2Proof.Machine.execClear tag loader s
  | .localMessageDiscarded => Sys2Proof.Machine.execLocalMessageDiscarded s
  | .interByteTimeout => Sys2Proof.Machine.execInterByteTimeout s
  | .requestWhileBusy kind tag => Sys2Proof.Machine.execRequestWhileBusy kind tag s
  | .readIdentity tag => Sys2Proof.Machine.execReadIdentity tag s
  | .readCounters tag => Sys2Proof.Machine.execReadCounters tag s
  | .readFlags tag flags => Sys2Proof.Machine.execReadFlags tag flags s
  | .setMask tag mask => Sys2Proof.Machine.execSetMask tag mask s
  | .addCredit tag n => Sys2Proof.Machine.execAddCredit tag n s
  | .mark tag => Sys2Proof.Machine.execMark tag s
  | .restartSoft tag => Sys2Proof.Machine.execRestartSoft tag s
  | .restartFull tag => Sys2Proof.Machine.execRestartFull tag s
  | .report tag speed location zone => Sys2Proof.Machine.execReport tag speed location zone s
  | .messageSent straps => Sys2Proof.Machine.execMessageSent straps s
  | .powerOn => Sys2Proof.Machine.execPowerOn s
  | .powerOnHoldExpiry straps => Sys2Proof.Machine.execPowerOnHoldExpiry straps s
  | .supplyFall => Sys2Proof.Machine.execSupplyFall s
  | .resetFallFor low => Sys2Proof.Machine.execResetFallFor low s
  | .resetRise straps => Sys2Proof.Machine.execResetRise straps s
  | .memoryStatusRead status => Sys2Proof.Machine.execMemoryStatusRead status s
  | .memoryRetryExpiry => Sys2Proof.Machine.execMemoryRetryExpiry s
  | .settingsBlockRead block => Sys2Proof.Machine.execSettingsBlockRead block s
  | .lrxdByteReceived byte => Sys2Proof.Machine.execLrxdByteReceived byte s
  | .llrxByteReceived byte stopBit => Sys2Proof.Machine.execLlrxByteReceived byte stopBit s
  | .inputSample stopchain in2 in3 in4 => Sys2Proof.Machine.execInputSample stopchain in2 in3 in4 s
  | .unknownRequestKind kind tag => Sys2Proof.Machine.execUnknownRequestKind kind tag s

end Sys2Proof.Machine
end

