-- ==== Sys2Proof/Safety.lean ====
section
/-!
DEFINITION. What the statements about the part are said in: the streams of messages that are still to be completed, a
part that awaits a request, and the invariants of a safe run (motion and cap, bounds, tables, attention).
-/

namespace Sys2Proof.Machine

/-! ### Messages still to be completed (R174, R176, R180, R182) -/

/-- The message in its sending, when it is of a kind. -/
def Link.sending? (what : TxWhat) (k : Link) : Option Message :=
  match k.tx with
  | some x => if x.what = what then some x.message else none
  | none => none

/-- A waiting message that belongs to the response in progress. -/
def Waiting.response? : Waiting → Option Message
  | .response m => some m
  | .busy _ => none

/-- A waiting BUSY answer. -/
def Waiting.busy? : Waiting → Option Message
  | .busy m => some m
  | .response _ => none

/-- R176: the messages of the response in progress whose sending is not complete, in the order they go out. -/
def Link.responseStream (k : Link) : List Message :=
  (k.sending? .response).toList ++ k.waiting.filterMap Waiting.response? ++ k.parts

/-- R174: the BUSY answers whose sending is not complete. -/
def Link.busyStream (k : Link) : List Message :=
  (k.sending? .busy).toList ++ k.waiting.filterMap Waiting.busy?

/-- R182: the notices whose sending is not complete, oldest first, each as its kind and contents. -/
def Link.noticeStream (k : Link) : List (Byte × List Byte) :=
  ((k.sending? .notice).toList.map fun m => (m.kind, m.body)) ++ k.notices.map fun n => (n.code, n.body)

/-- A notice as it stands in the stream. -/
def Notice.wire (n : Notice) : Byte × List Byte := (n.code, n.body)

/-- R174: the slot is busy with a response, and this is the response. -/
def Link.Answers (kind tag : Byte) (code : ResultCode) (contents : List Byte) (k : Link) : Prop :=
  k.slotBusy = true ∧ k.responseStream = responseMessages kind tag code contents

/-- R174, R175: the part is in service with its slot free and no response in progress, its condition is RUNNING, and the
request belongs to its role. -/
def State.Awaits (role : RequestRole) (s : State) : Prop :=
  s.inService = true ∧ s.link.slotBusy = false ∧ s.link.responseStream = [] ∧ s.startup.condition = .running ∧
    (role = none ∨ role = some s.startup.role)

/-- R175, R191: the part is in service in FAULT-HOLD, with its slot free and no response in progress. -/
def State.AwaitsInFault (s : State) : Prop :=
  s.inService = true ∧ s.link.slotBusy = false ∧ s.link.responseStream = [] ∧ s.startup.condition = .faultHold

/-- What happens to the Local Link beside the response in progress, the receiver and the command stream: the notices
`ns` have been posted, in that order, with room for them (R182), and the flags of `raised` have been raised with ATTN
judged (R185, R187). With no notice posted, the notice queue, the credit and the notice number are as they were. -/
def Link.Beside (ns : List Notice) (raised : Half) (k k' : Link) : Prop :=
  k'.noticeStream = k.noticeStream ++ ns.map Notice.wire ∧
  (ns = [] → k'.notices = k.notices ∧ k'.credit = k.credit ∧ k'.noticeNumber = k.noticeNumber) ∧
  k'.noticeOverflow = k.noticeOverflow ∧ k'.linkErrors = k.linkErrors ∧ k'.restart = k.restart ∧
  k'.lastReport = k.lastReport ∧ k'.mark = k.mark ∧ k'.mask = k.mask ∧ k'.busyStream = k.busyStream ∧
  k'.flags = k.flags ||| raised ∧ k'.attn = (if raised = 0 then k.attn else k'.attention)

/-- R174, R176: a request has been answered with a code and contents, and beside that the notices `ns` have been posted
and the flags of `raised` raised. -/
def Link.Replies (kind tag : Byte) (code : ResultCode) (contents : List Byte) (ns : List Notice) (raised : Half)
    (k k' : Link) : Prop :=
  k'.Answers kind tag code contents ∧ k.Beside ns raised k'

/-- R174: the slot, the response in progress and the receiver are as they were. -/
def Link.SameSlot (k k' : Link) : Prop :=
  k'.slotBusy = k.slotBusy ∧ k'.responseStream = k.responseStream ∧ k'.receiver = k.receiver

/-- An event has posted the notices `ns` and raised the flags of `raised`; the response in progress, the slot and the
receiver are as they were. -/
def Link.Posts (ns : List Notice) (raised : Half) (k k' : Link) : Prop :=
  k.Beside ns raised k' ∧ k.SameSlot k'

/-- R182: the notices to be completed after a STATE notice has been posted with room: it takes the place of an unsent
STATE notice, or the last place. -/
def Link.stateStream (n : Notice) (k : Link) : List (Byte × List Byte) :=
  ((k.sending? .notice).toList.map fun m => (m.kind, m.body)) ++
    (if k.notices.any Notice.isState then replaceState n k.notices else k.notices ++ [n]).map Notice.wire

/-- Table 10-4: the message of a request, by its kind, tag and body, and the role it belongs to. -/
def requestMessage? : Instr → Option (Message × RequestRole)
  | .readIdentity t => some (⟨0x01, t, []⟩, none)
  | .readFlags t f => some (⟨0x02, t, bytesOfHalf f⟩, none)
  | .setMask t f => some (⟨0x03, t, bytesOfHalf f⟩, none)
  | .addCredit t n => some (⟨0x04, t, [n]⟩, none)
  | .mark t => some (⟨0x05, t, []⟩, none)
  | .readCounters t => some (⟨0x06, t, []⟩, none)
  | .restartSoft t => some (⟨0x07, t, [1]⟩, none)
  | .restartFull t => some (⟨0x07, t, [2]⟩, none)
  | .axes t st tr bo bu => some (⟨0x10, t, [st] ++ bytesOfHalf tr ++ [bo, bu]⟩, some .chair)
  | .claim t l m => some (⟨0x11, t, [l, m]⟩, some .chair)
  | .setMode t l m => some (⟨0x12, t, [l, m]⟩, some .chair)
  | .offer t l g m x => some (⟨0x13, t, [l, g, m] ++ bytesOfHalf x⟩, some .chair)
  | .withdraw t l => some (⟨0x14, t, [l]⟩, some .chair)
  | .release t l => some (⟨0x15, t, [l]⟩, some .chair)
  | .seize t l m => some (⟨0x16, t, [l, m]⟩, some .chair)
  | .pause t l => some (⟨0x17, t, [l]⟩, some .chair)
  | .resume t l => some (⟨0x18, t, [l]⟩, some .chair)
  | .stop t l => some (⟨0x19, t, [l]⟩, some .chair)
  | .stopAll t => some (⟨0x1A, t, []⟩, some .chair)
  | .clear t l => some (⟨0x1B, t, [l]⟩, some .chair)
  | .acceptItem t l => some (⟨0x1C, t, [l]⟩, some .chair)
  | .declineItem t l => some (⟨0x1D, t, [l]⟩, some .chair)
  | .dismissItem t l => some (⟨0x1E, t, [l]⟩, some .chair)
  | .standDown t => some (⟨0x1F, t, []⟩, some .chair)
  | .standUp t => some (⟨0x20, t, []⟩, some .chair)
  | .readHolds t => some (⟨0x21, t, []⟩, some .chair)
  | .readBoard t => some (⟨0x22, t, []⟩, some .chair)
  | .report t sp lo z => some (⟨0x30, t, bytesOfHalf sp ++ bytesOfHalf lo ++ [z]⟩, some .loader)
  | .assistRaise t lo => some (⟨0x31, t, bytesOfHalf lo⟩, some .loader)
  | .assistCancel t => some (⟨0x32, t, []⟩, some .loader)
  | .localStop t => some (⟨0x33, t, []⟩, some .loader)
  | .readRecord t => some (⟨0x34, t, []⟩, some .loader)
  | .lcdRise | .receptionComplete | .gapMet | .waitExpiry | .keyUpLeadExpiry | .sendingComplete
  | .lineBlockedExpiry | .transferDeadlineExpiry | .reclaimDeadlineExpiry | .assistRepeatExpiry
  | .statusTimerExpiry | .answerDeadlineExpiry _ | .offerDeadlineExpiry _ | .itemDeadlineExpiry _
  | .gestureWindowExpiry | .lapseTimerExpiry | .envelopeIntervalExpiry | .absenceDeadlineExpiry _
  | .driveIntervalExpiry | .superviseDeadlineExpiry _ | .filteredEdge .. | .indicatorFlash | .stopListDue
  | .localMessageDiscarded | .interByteTimeout | .requestWhileBusy .. | .messageSent _ | .powerOn
  | .powerOnHoldExpiry _ | .supplyFall | .resetFallFor _ | .resetRise _ | .memoryStatusRead _ | .memoryRetryExpiry
  | .settingsBlockRead _ | .lrxdByteReceived _ | .llrxByteReceived .. | .inputSample ..
  | .unknownRequestKind .. => none

/-- R173: the bytes of a list, each with a good stop bit, take the part from a state into another, one
LLRX_BYTE_RECEIVED after the other. -/
def State.Hears : List Byte → State → State → Prop
  | [], s, t => t = s
  | b :: rest, s, t => ∃ u, exec (.llrxByteReceived b true) s = .next u ∧ State.Hears rest u t

/-! ### The line (R2, R8, R12 to R18) -/

/-- R15: class C after a frame has been given: the frame replaces the one of its kind and loader field in place, or
joins the tail, the oldest making room when all six slots are taken. -/
def joinC (f : TxFrame) (c : List TxFrame) : List TxFrame :=
  if c.any (·.sameSlot f) then replaceInPlace f c else if c.length < 6 then c ++ [f] else c.tail ++ [f]

/-- R13, R14: the class of a frame has a free slot for it; class C always takes a frame (R15). -/
def Liu.HasRoom (f : TxFrame) (q : Liu) : Prop :=
  match f.kind.frameClass with
  | .s => q.classS.length < 2
  | .a => q.classA.length < 8
  | .c => True

/-- R13 to R17: a frame has joined the transmit queue with room for it. Of the rest of the LIU only channel access, with
its draws, may have moved on, and a sending under way goes on. -/
def Liu.Joined (f : TxFrame) (q q' : Liu) : Prop :=
  q' = { q with
    classS := if f.kind.frameClass = .s then q.classS ++ [f] else q.classS
    classA := if f.kind.frameClass = .a then q.classA ++ [f] else q.classA
    classC := if f.kind.frameClass = .c then joinC f q.classC else q.classC
    access := q'.access
    draws := q'.draws } ∧
  (∀ out, q.access = .sending out → q'.access = q.access)

/-- All frames of the queue in the order of the classes. -/
def Liu.frames (q : Liu) : List TxFrame := q.classS ++ q.classA ++ q.classC

/-- R2, R8: the carrier of a reception is up, LKEY is low, and what has been received passes the receive check as the
frame `f`. -/
def State.Receives (f : RxFrame) (s : State) : Prop :=
  s.active = true ∧ s.liu.lcd = true ∧ s.liu.lkey = false ∧ s.liu.receiving = true ∧
    receiveCheck s.liu.rxBuffer s.liu.rxCount = some f

/-- R2, R16, R20: the state at the fall of LCD, before the frame is judged: the reception is over, the buffer empty, the
line-blocked timer stopped and the gap measured from now. -/
def State.received (s : State) : State :=
  { s with liu := { s.liu with
      lcd := false, gapFrom := s.now, blocked := none, receiving := false, rxBuffer := [], rxCount := 0 } }

/-- A frame of an authority kind that this loader takes: another station's frame about this loader (R9, R10). -/
def State.TakesAsLoader (f : RxFrame) (s : State) : Prop :=
  s.Receives f ∧ s.startup.role = .loader ∧ f.source ≠ s.station ∧ f.loader = s.station

/-- A frame of another station that this chair receives (R9, R11). -/
def State.TakesAsChair (f : RxFrame) (s : State) : Prop :=
  s.Receives f ∧ s.startup.role = .chair ∧ f.source ≠ s.station

/-- The STATUS frame of a state (R28). -/
def State.statusFrame (s : State) : TxFrame := TxFrame.make .status 0 s.station s.record.epoch s.statusBody .status

/-! ### Command records (R146, R148, R151, R152, R180, R184) -/

/-- R146: the travel that a DRIVE frame's flags and demand pass under a cap: 0 without the deadman, with a stale console
or an open seat, else the demand clamped to −250 to +250 and then to the range from −min(C, Vrev) to +C. -/
def passedTravel (cap vrev : Nat) (flags : Byte) (demand : Int) : Int :=
  if flags.getLsbD 0 = true ∧ flags.getLsbD 1 = false ∧ flags.getLsbD 2 = true then
    max (-(min cap vrev : Nat)) (min (max (-250) (min demand 250)) cap)
  else 0

/-- R180, R184: the command stream after a record has been given: an idle transmitter begins the record at once with the
record number as its tag; otherwise it is the unsent record, in place of any older one. -/
def Link.withRecord (now : Nat) (r : CommandRecord) (k : Link) : Link :=
  if k.tx = none then
    { k with
      unsentRecord := none, recordNumber := k.recordNumber + 1
      tx := some ⟨.record, ⟨0x70, k.recordNumber, r.body⟩, now⟩ }
  else { k with unsentRecord := some r }

/-- R180, R184: the command records whose sending is not complete, by their bodies: the one in its sending, then the
unsent one. -/
def Link.recordStream (k : Link) : List (List Byte) :=
  (k.sending? .record).toList.map (·.body) ++ k.unsentRecord.toList.map (·.body)

/-- R152, R180, R184: a command record has been given, or none has. A record given takes the last place of the command
stream, in place of an unsent one, and an idle transmitter has begun it with the record number as its tag. -/
def Link.Gave (now : Nat) (given : Option CommandRecord) (k k' : Link) : Prop :=
  match given with
  | none => k'.recordStream = k.recordStream
  | some r =>
    k'.recordStream = (k.sending? .record).toList.map (·.body) ++ [r.body] ∧
    (k.tx = none → k'.tx = some ⟨.record, ⟨0x70, k.recordNumber, r.body⟩, now⟩)

/-- R151: the record that a change from `s` to `t` gives. Outside the zeroing condition it is the REPEAT record of R148,
built from the last record of `s` as `t` stands, when the cap has fallen below the one that record carries, or when
MOTION_ENABLE has changed other than by the rise that ends the zeroing condition. Otherwise none is given. -/
def State.loweredRecord (s t : State) : Option CommandRecord :=
  if t.zeroing = false ∧ (t.envelope.cap < s.relay.lastRecord.cap ∨
      (t.discrete.motionEnable ≠ s.discrete.motionEnable ∧
        ¬ (s.zeroing = true ∧ t.discrete.motionEnable = true))) then
    some (State.repeatRecord { t with relay := { t.relay with lastRecord := s.relay.lastRecord } })
  else none

/-! ### Changes of the record (R25 to R28, R48, R49, R111, R126, R131, R132, R159, R166) -/

/-- What every change of the record leaves as it was: the queue of commands, the clock, straps and settings, the chair's
tables, the chair side of the Relay, the stop latch, the filters, the stop list, and the envelope's timer. -/
def State.KeepsBesideRecord (s t : State) : Prop :=
  t.pending = s.pending ∧ t.now = s.now ∧ t.startup = s.startup ∧ t.holds = s.holds ∧ t.board = s.board ∧
  t.relay.axes = s.relay.axes ∧ t.relay.driveTimer = s.relay.driveTimer ∧
  t.envelope.timer = s.envelope.timer ∧ t.record.statusTimer = s.record.statusTimer ∧
  t.discrete = { s.discrete with
    motionEnable := t.discrete.motionEnable, indicator := t.discrete.indicator, flash := t.discrete.flash }

/-- R48, R159, R166: the blocks beside the record follow it: the views of the Monitor and the Relay, MOTION_ENABLE and
the indicator, which begins its flashing lit. -/
def State.FollowsRecord (s : State) : Prop :=
  s.monitor.view = s.record.view ∧ s.relay.view = s.record.view ∧
  s.discrete.motionEnable =
    (s.record.auth.current?.isSome && s.discrete.latch.isNone && s.discrete.stopchain.active) ∧
  (match s.record.auth with
   | .free | .orphan .. => s.discrete.indicator = false ∧ s.discrete.flash = none
   | .held .. => s.discrete.indicator = true ∧ s.discrete.flash = none
   | .transfer .. | .assist .. => s.discrete.indicator = true ∧ s.discrete.flash = some (s.now + ms 500))

/-- R49, R182: the STATE notice `n` has been posted with room for it: it takes the place of an unsent STATE notice or the
last place, and of the rest of the Local Link beside the response in progress, the receiver and the command stream
nothing has changed. -/
def Link.StatePosted (n : Notice) (k k' : Link) : Prop :=
  k'.noticeStream = k.stateStream n ∧ k'.busyStream = k.busyStream ∧ k'.lastReport = k.lastReport ∧
  k'.restart = k.restart ∧ k'.mark = k.mark ∧ k'.flags = k.flags ∧ k'.mask = k.mask ∧ k'.attn = k.attn ∧
  k'.noticeOverflow = k.noticeOverflow ∧ k'.linkErrors = k.linkErrors

/-- R150, R151: the record given when the Authority Record turns into another state without a grant: the zeroed record on
entering ORPHAN, otherwise the record of R151. -/
def State.turnRecord (s t : State) : Option CommandRecord :=
  if t.record.auth.state = .orphan then some {} else s.loweredRecord t

/-- R27, R49, R131, R150, R151: from `s` the record has turned into `auth` without a grant. Epoch and last grant stay; the
Monitor changes only in its view and the Envelope only in its cap, which a lowering evaluation of the new state gives;
the record of R150 or R151 has been given; one STATUS of the new state has joined the queue. -/
def State.TurnedInto (auth : Authority) (s t : State) : Prop :=
  s.KeepsBesideRecord t ∧ t.FollowsRecord ∧
  t.record = { s.record with auth } ∧
  t.monitor = { s.monitor with view := t.record.view } ∧
  t.envelope.permit = s.envelope.permit ∧
  t.envelope.cap = State.capOf .lowering { s with monitor := t.monitor } ∧
  t.relay.taken = s.relay.taken ∧
  t.relay.lastRecord = (s.turnRecord t).getD s.relay.lastRecord ∧
  s.link.Gave s.now (s.turnRecord t) t.link ∧
  Liu.Joined t.statusFrame s.liu t.liu

/-- R25, R26, R111, R126, R132, R149: from `s` a grant has been made to a station in a mode, or to none: the record with
its new epoch and last grant; the Monitor with an empty window, no remembered sequence, and for a station a new age and
lapse deadline; the cap 0 and the permit no; the neutral record (the zeroed one in the zeroing condition) as the last
record and given, with the taken mark clear; and GRANT, then STATUS, given to the LIU. -/
def State.GrantedTo (target : Option (Nat × Mode)) (s t : State) : Prop :=
  s.KeepsBesideRecord t ∧ t.FollowsRecord ∧
  t.record.auth = (match target with | some (n, m) => .held n m none | none => .free) ∧
  t.record.epoch = s.record.epoch + 1 ∧
  t.record.lastGrant = some ⟨s.record.epoch + 1, target.map Prod.fst, target.map Prod.snd, s.record.auth.holder?⟩ ∧
  t.monitor.window = List.replicate 8 false ∧ t.monitor.openMark = false ∧ t.monitor.remembered = none ∧
  t.monitor.lastHolderAt = target.map (fun _ => s.now) ∧
  t.monitor.lapse = target.map (fun p => s.now + ms ((if p.2 = .drive then 1 else 4) * s.settings.l * s.settings.p)) ∧
  t.envelope.cap = 0 ∧ t.envelope.permit = false ∧ t.relay.taken = false ∧
  t.relay.lastRecord =
    (if t.zeroing then { } else { mode := target.map Prod.snd, motion := t.discrete.motionEnable }) ∧
  s.link.Gave s.now (some t.relay.lastRecord) t.link ∧
  ∃ q, Liu.Joined
      (TxFrame.make .grant 0 s.station (s.record.epoch + 1)
        [byte ((target.map Prod.fst).getD 0), modeCode? (target.map Prod.snd), byte (s.record.auth.holder?.getD 0)])
      s.liu q ∧ Liu.Joined t.statusFrame q t.liu

/-- R28, R150, R162, R163: a cause has set the stop latch: the first cause stands, the cap is 0, MOTION_ENABLE is low, a
setting that found the latch clear has made the last record the zeroed one, and a STATUS has joined the queue. Nothing
else beside the Local Link has changed. -/
def State.LatchedBy (cause : StopCause) (s t : State) : Prop :=
  t = { s with
    discrete := { s.discrete with latch := some (s.discrete.latch.getD cause), motionEnable := false }
    envelope := { s.envelope with cap := 0 }
    relay := { s.relay with lastRecord := if s.discrete.latch.isNone then { } else s.relay.lastRecord }
    liu := t.liu
    link := t.link } ∧
  Liu.Joined t.statusFrame s.liu t.liu

/-- The notices of a setting of the latch: LATCH when the setting found it clear (R163). -/
def State.latchNotices (cause : StopCause) (s : State) : List Notice :=
  if s.discrete.latch.isNone then [.latch (some cause)] else []

/-! ### Samples and the stop list (R154, R155, R167) -/

/-- R154: a filter that takes a sample: one that differs from the latest begins a new run, an equal one counts, and from
the third equal one the filter is settled with that value. -/
def InputFilter.taking (v : Bool) (f : InputFilter) : InputFilter :=
  match f.run with
  | none => { f with run := some ⟨v, 1⟩ }
  | some r =>
    if r.value ≠ v then { f with run := some ⟨v, 1⟩ }
    else if r.count < 2 then { f with run := some ⟨v, r.count + 1⟩ }
    else ⟨v, true, some ⟨v, 3⟩⟩

/-- R154, R155: the sample makes a filtered edge of its input: it is at least the third equal one, and the filtered state
has the other value, or STOPCHAIN settles open for the first time. -/
def InputFilter.Turns (i : Input) (v : Bool) (f : InputFilter) : Prop :=
  (∃ r, f.run = some r ∧ r.value = v ∧ 2 ≤ r.count) ∧
    (f.active ≠ v ∨ (i = .stopchain ∧ f.settled = false ∧ v = false))

/-- R167: entries join a stop list one after another; those that find it full are dropped. -/
def joinAll (new l : List StopEntry) : List StopEntry :=
  new.foldl (fun l e => if l.length < 32 then insertStop e l else l) l

/-- R167: from `s` the entries `new` have joined the stop list `l`, with room in class S. While a STOP is outstanding, or
when the list is full, none is given; otherwise the first entry of the list, due as one joins that is due, is given to
the LIU as a STOP with the epoch of its held loader, else 0, and the mark is set for those that follow. -/
def State.StopsJoined (l new : List StopEntry) (s t : State) : Prop :=
  t = { s with
    discrete := { s.discrete with
      stopList := t.discrete.stopList, stopOutstanding := t.discrete.stopOutstanding }
    liu := t.liu, link := t.link } ∧
  match new with
  | [] => t.discrete.stopList = l ∧ t.discrete.stopOutstanding = s.discrete.stopOutstanding ∧ t.liu = s.liu
  | first :: more =>
    if s.discrete.stopOutstanding = true ∨ 32 ≤ l.length then
      t.discrete.stopList = joinAll new l ∧ t.discrete.stopOutstanding = s.discrete.stopOutstanding ∧ t.liu = s.liu
    else
      match insertStop first l with
      | [] => False
      | e :: rest =>
        t.discrete.stopList = joinAll more rest ∧ t.discrete.stopOutstanding = true ∧
          Liu.Joined (TxFrame.make .stop e.loader e.loader ((s.entry? e.loader).map (·.epoch) |>.getD 0) [e.reason]
            .stop) s.liu t.liu

/-- R167: the flag of entries `new` that join the stop list `l`: TX_OVERFLOW when one finds it full, the one given to the
LIU at the first joining leaving its place. -/
def State.stopFlags (l new : List StopEntry) (s : State) : Half :=
  let given := if s.discrete.stopOutstanding = false ∧ l.length < 32 then 1 else 0
  if new ≠ [] ∧ 32 + given < l.length + new.length then 0x0040 else 0

/-! ### Checks -/

/-- A request's or a gesture's checks, in their order, each with the code it gives when it fails: the code is that of
the first check that fails. -/
def FirstFails {α : Type} : List (Prop × α) → α → Prop
  | [], _ => False
  | (failed, c) :: rest, code => (failed ∧ code = c) ∨ (¬ failed ∧ FirstFails rest code)

/-! ### Entries of the Hold Table and items of the Call Board (R54, R56, R57, R71, R81, R84 to R86, R89, R142) -/

/-- R56: the continue flag of an entry that takes a mode: yes when SUPERVISE is new to it, kept when it is not, and not
present in DRIVE. -/
def Entry.continueIn (m : Mode) (x : Entry) : Bool :=
  match m with
  | .drive => false
  | .supervise => if x.mode = .supervise then x.continueOk else true

/-- R55, R56, R57, R60, R114: an entry has been added at the tail in ACQUIRING, and its outstanding frame has joined the
queue. Beside the table, the LIU and the Local Link nothing has changed. -/
def State.EntryAdded (loader : Nat) (kind : OutKind) (m : Mode) (epoch : Epoch) (s t : State) : Prop :=
  t = { s with
    holds := { s.holds with
      entries := s.holds.entries ++ [
        { loader, mode := m
          phase := .acquiring .new ⟨kind, some m, epoch, 1, s.now + ms (4 * s.settings.p), s.holds.nextRef⟩
          epoch, continueOk := decide (m = .supervise), addedAt := s.now
          absence := some (s.now + ms (3 * s.settings.s * s.settings.p)) }]
      nextRef := s.holds.nextRef + 1 }
    liu := t.liu
    link := t.link } ∧
  Liu.Joined (TxFrame.make kind.frameKind loader loader epoch [modeCode m] (.outstanding s.holds.nextRef)) s.liu t.liu

/-- R56, R57, R61, R63, R77: an entry has entered ACQUIRING in a mode with an origin, and CLAIM in that mode, its
outstanding frame, has joined the queue. -/
def State.ClaimedAgain (loader : Nat) (origin : Origin) (m : Mode) (epoch : Epoch) (s t : State) : Prop :=
  t = { s with
    holds := { s.holds with
      entries := s.holds.entries.map fun x =>
        if x.loader = loader then
          { x with
            mode := m, continueOk := x.continueIn m, supervise := none
            phase := .acquiring origin
              ⟨.claim, some m, epoch, 1, s.now + ms (4 * s.settings.p), s.holds.nextRef⟩ }
        else x
      nextRef := s.holds.nextRef + 1 }
    liu := t.liu
    link := t.link } ∧
  Liu.Joined (TxFrame.make .claim loader loader epoch [modeCode m] (.outstanding s.holds.nextRef)) s.liu t.liu

/-- R56, R57, R66, R71, R74, R78: an entry has entered RELEASING, or its release has started over, with an epoch, in a
mode newly taken or in its own: RELEASE, a fresh outstanding frame with its attempts at 1, has joined the queue. -/
def State.ReleasedWith (loader : Nat) (mode : Option Mode) (epoch : Epoch) (s t : State) : Prop :=
  t = { s with
    holds := { s.holds with
      entries := s.holds.entries.map fun x =>
        if x.loader = loader then
          { x with
            mode := mode.getD x.mode
            continueOk := match mode with | none => x.continueOk | some m => x.continueIn m
            epoch, supervise := none
            phase := .releasing ⟨.release, none, epoch, 1, s.now + ms (4 * s.settings.p), s.holds.nextRef⟩ }
        else x
      nextRef := s.holds.nextRef + 1 }
    liu := t.liu
    link := t.link } ∧
  Liu.Joined (TxFrame.make .release loader loader epoch [] (.outstanding s.holds.nextRef)) s.liu t.liu

/-- R56, R71 to R73, R78, R142: an entry has entered HELD in a mode, with a new epoch or its own. In SUPERVISE a SUPERVISE
frame has joined the queue and the supervise deadline has started; in DRIVE nothing is sent and no deadline runs. -/
def State.HeldIn (e : Entry) (m : Mode) (epoch : Option Epoch) (s t : State) : Prop :=
  t = { s with
    holds := { s.holds with
      entries := s.holds.entries.map fun x =>
        if x.loader = e.loader then
          { x with
            mode := m, continueOk := x.continueIn m, phase := .held none, epoch := epoch.getD x.epoch
            supervise := if m = .supervise then some (s.now + ms (4 * s.settings.p)) else none }
        else x }
    liu := t.liu
    link := t.link } ∧
  (m = .drive → t.liu = s.liu) ∧
  (m = .supervise →
    Liu.Joined (TxFrame.make .supervise e.loader e.loader (epoch.getD e.epoch) [if e.continueIn m then 1 else 0])
      s.liu t.liu)

/-- R70: a grant to station `n`, or to none for 0, completes the offer of an entry in OFFERING or the last offer of one in
HELD. -/
def Phase.Completes (n : Nat) : Phase → Prop
  | .offering o => match o.target with | .station k => n = k | .pool _ => n ≠ 0
  | .held (some o) => match o.target with | .station k => n = k | .pool _ => n ≠ 0
  | .held none | .acquiring .. | .releasing _ | .suspended => False

/-- R77, R115: the state after a STATUS about a held loader has been heard, before it is compared with the entry: the
Monitor's renewal, the alert latched, the loader report stored and the assist raised flag set. -/
def State.statusHeard (f : RxFrame) (s : State) : State :=
  s.received.mapEntry f.loader fun x =>
    { x with
      lastStatusAt := some s.now
      absence := some (s.now + ms (3 * s.settings.s * s.settings.p))
      absent := false
      alertLatch := x.alertLatch || (f.at 8).getLsbD 2
      report := some ⟨f.at 0, f.at 4, f.halfAt 5, f.at 7, (f.at 8).getLsbD 1, f.at 9, (f.at 8).getLsbD 4⟩
      assist := (f.at 8).getLsbD 4 }

/-- R115: PRESENT, when the loader of the entry was absent. -/
def Entry.presentNotices (e : Entry) : List Notice := if e.absent then [.present e.loader] else []

/-- R54, R81: the entry of a loader has been removed with the notice `n`, after the notices `before` of the same event. In
STANDING_DOWN the removal that empties the table makes the posture VACANT and posts POSTURE; LOST raises HOLD_LOST. -/
def State.EntryLeft (loader : Nat) (before : List Notice) (n : Notice) (s t : State) : Prop :=
  let left := s.holds.entries.filter (·.loader ≠ loader)
  let emptied := s.holds.posture = .standingDown ∧ left = []
  t = { s with
    holds := { s.holds with entries := left, posture := if emptied then .vacant else s.holds.posture }
    link := t.link } ∧
  s.link.Posts (before ++ [n] ++ (if emptied then [.posture .vacant] else []))
    (match n with | .lost .. => 0x0002 | _ => 0) t.link

/-- R80: one RELEASE for a loader, with an epoch, has joined the queue, and DISOWNED has been posted; no entry is added. -/
def State.Disowned (loader : Nat) (epoch : Epoch) (s t : State) : Prop :=
  t = { s with liu := t.liu, link := t.link } ∧
  Liu.Joined (TxFrame.make .release loader loader epoch []) s.liu t.liu ∧
  s.link.Posts [.disowned loader epoch] 0 t.link

/-- R11, R85, R86: the item that a frame which reaches the Board carries: an OFFER addressed to this chair or to a pool
of its set, and an ASSIST_CALL to a pool of its set, about a station other than this chair. -/
def State.heardItem? (f : RxFrame) (s : State) : Option Item :=
  let member := 65 ≤ f.dest ∧ s.settings.pools.getLsbD (f.dest - 65) = true
  let deadline := s.now + min (ms (100 * max 1 (min (f.halfAt 1).toNat 300))) (sec s.settings.tx)
  if f.loader = 0 ∨ f.loader = s.station then none
  else
    match f.kind, modeOf? (f.at 0) with
    | .offer, some m =>
      if f.dest = s.station then some ⟨f.loader, .namedOffer f.source, m, f.epoch, deadline, false⟩
      else if member then some ⟨f.loader, .poolOffer f.source (f.dest - 64), m, f.epoch, deadline, false⟩
      else none
    | .assistCall, _ =>
      if member then some ⟨f.loader, .assist (f.dest - 64) (f.halfAt 0), .drive, f.epoch, s.now + sec 6, false⟩
      else none
    | _, _ => none

/-- R83, R84: the item that becomes presented when a loader's item leaves: the first in the order of presentation of
those left, lowest level first and oldest first within a level, when none of them is presented. -/
def Board.nextItem? (loader : Nat) (b : Board) : Option Item :=
  let left := b.items.filter (·.loader ≠ loader)
  if left.any (·.presented) then none
  else [1, 2, 3].findSome? fun level => left.find? (·.kind.level = level)

/-- R89: a gesture of the Board that is armed for a loader's item. -/
def Board.gestureFor? (loader : Nat) (b : Board) : Option Gesture :=
  b.gesture.filter fun g => decide (g.request = .acceptItem ∧ g.loader = loader)

/-- R84, R89: the state after a loader's item, if it has one, has left the Board, but for the LIU and the Local Link: the
next item is presented, a gesture armed for the item is over, and the indicator is lit while the Board holds items. -/
def State.withoutItem (loader : Nat) (s : State) : State :=
  if s.item? loader = none then s
  else
    let left := s.board.items.filter (·.loader ≠ loader)
    { s with
      board :=
        { items := match s.board.nextItem? loader with
            | none => left
            | some next => left.map fun j => if j.loader = next.loader then { j with presented := true } else j
          gesture := if (s.board.gestureFor? loader).isSome then none else s.board.gesture }
      discrete := { s.discrete with indicator := decide (left ≠ []) } }

/-- R84, R89, R100: the notices that follow the removal of a loader's item: GESTURE_FAILED, cause ITEM_GONE, and the next
item's PRESENTED. -/
def State.leavingNotices (loader : Nat) (s : State) : List Notice :=
  if s.item? loader = none then []
  else
    (s.board.gestureFor? loader).toList.map (fun g => .gestureFailed g.loader g.request .itemGone) ++
      (s.board.nextItem? loader).toList.map (fun i => .presented i.loader i.kind i.mode)

/-- R84, R102: CALL, when the removal of a loader's item presents another. -/
def State.leavingFlags (loader : Nat) (s : State) : Half :=
  if s.item? loader ≠ none ∧ (s.board.nextItem? loader).isSome then 0x0001 else 0

/-- R88: the item that a newcomer of a level displaces from a full Board: the oldest unpresented item of the highest level
number present among the unpresented, when that number is above the newcomer's. -/
def Board.displaced? (level : Nat) (b : Board) : Option Item :=
  let waiting := b.items.filter (!·.presented)
  let ofLevel (l : Nat) := waiting.find? (·.kind.level = l)
  ((ofLevel 3).or ((ofLevel 2).or (ofLevel 1))).filter fun j => decide (level < j.kind.level)

/-! ### Motion and the cap (R48, R132, R135, R166) -/

/-- R135: the largest cap of a hold: Vmax in DRIVE and Vauto in SUPERVISE, in HELD and TRANSFER; 0 in the other
states. -/
def State.capBound (s : State) : Nat :=
  match s.record.auth with
  | .held _ .drive _ | .transfer _ .drive _ => s.settings.vmax
  | .held _ .supervise _ | .transfer _ .supervise _ => s.settings.vauto
  | .free | .assist .. | .orphan .. => 0

/-- The invariant of motion. MOTION_ENABLE stands as R166 gives; the cap is 0 while it is low and within the bound of
R135; the Monitor's view is the record's (R48); the window has eight slots. A part that is not active has a FREE record,
and a load or a power-on hold runs only while the condition is LOADING. -/
def State.MotionSafe (s : State) : Prop :=
  s.discrete.motionEnable = s.motionCondition ∧
  (s.discrete.motionEnable = false → s.envelope.cap = 0) ∧
  s.envelope.cap ≤ s.capBound ∧
  s.monitor.view = s.record.view ∧
  s.monitor.window.length = 8 ∧
  (s.active = false → s.record.auth = .free) ∧
  (s.startup.hold.isSome = true → s.startup.condition = .loading) ∧
  (s.startup.load ≠ .idle → s.startup.condition = .loading)

/-! ### Bounds (R2, R8, R12, R55, R83, R167, R173, R181, R182) -/

/-- Every buffer, queue, table and counter is within the size its rule gives. -/
def State.Bounded (s : State) : Prop :=
  s.liu.rxBuffer.length ≤ 26 ∧ s.liu.badFrames ≤ 65535 ∧
  s.liu.classS.length ≤ 2 ∧ s.liu.classA.length ≤ 8 ∧ s.liu.classC.length ≤ 6 ∧
  s.holds.entries.length ≤ 6 ∧ s.board.items.length ≤ 8 ∧ s.discrete.stopList.length ≤ 32 ∧
  s.link.notices.length ≤ 32 ∧ s.link.credit ≤ 255 ∧ s.link.linkErrors ≤ 255 ∧ s.link.noticeOverflow ≤ 255

/-! ### The Hold Table and the Call Board (R11, R51, R54, R55, R83, R84, R92, R98) -/

/-- Exactly one item is presented, unless the Board is empty (R84). -/
def Board.Presents (b : Board) : Prop := (b.items.filter (·.presented)).length = if b.items.isEmpty then 0 else 1

/-- No two entries and no two items are for one loader, and no loader is both held and boarded; the Board presents as
R84 gives; items stand only in posture ACTIVE; STANDING_DOWN has an entry to work off; a gesture of the Board is armed
for the presented item. -/
def State.TablesSound (s : State) : Prop :=
  (s.holds.entries.map (·.loader)).Nodup ∧ (s.board.items.map (·.loader)).Nodup ∧
  (∀ e ∈ s.holds.entries, ∀ i ∈ s.board.items, e.loader ≠ i.loader) ∧
  s.board.Presents ∧
  (s.holds.posture ≠ .active → s.board.items = []) ∧
  (s.holds.posture = .standingDown → s.holds.entries ≠ []) ∧
  (∀ g, s.board.gesture = some g → g.request.ofBoard = true →
    ∃ i ∈ s.board.items, i.presented = true ∧ i.loader = g.loader)

/-! ### The roles (R24, R51, R83, R119, R137, R144, R155, R158, R161, R167) -/

/-- Each role keeps to its own state. An inactive part has its Engine, Monitor, Envelope, Relay, Hold Table and Call
Board at their restart values; a chair's record stays FREE with epoch 0, its cap 0, its last record zeroed, MOTION_ENABLE
low and its stop latch clear; a loader's posture stays VACANT and its Hold Table, Board, axes and stop list empty. A load
or a power-on hold runs only while the condition is LOADING. -/
def State.RolesSound (s : State) : Prop :=
  (s.active = false → s.record = {} ∧ s.monitor = {} ∧ s.envelope = {} ∧ s.relay = {} ∧ s.holds = {} ∧ s.board = {} ∧
    s.discrete = { latch := s.discrete.latch }) ∧
  (s.startup.role = .chair → s.record.auth = .free ∧ s.record.epoch = 0 ∧ s.record.lastGrant = none ∧
    s.monitor = {} ∧ s.envelope = {} ∧ s.relay.lastRecord = {} ∧ s.relay.taken = false ∧ s.relay.view = {} ∧
    s.discrete.motionEnable = false ∧ s.discrete.latch = none) ∧
  (s.startup.role = .loader → s.holds = {} ∧ s.board = {} ∧ s.relay.axes = none ∧ s.relay.driveTimer = none ∧
    s.discrete.stopList = []) ∧
  (s.startup.hold.isSome = true → s.startup.condition = .loading) ∧
  (s.startup.load ≠ .idle → s.startup.condition = .loading)

/-! ### Attention (R160, R187) -/

/-- ATTN is driven low exactly while the attention condition holds, and is high while RESET holds the part or the supply
is down. -/
def State.AttnSound (s : State) : Prop :=
  s.link.attn = (s.startup.powered && !s.startup.resetLow && s.link.attention)

end Sys2Proof.Machine
end

