-- ==== Sys2Proof/Certificates/Slice0/Obligations.lean ====
section
/-!
DEFINITION. The statements about the SH-24 for the provers: the step and its invariants, the line, the loader's blocks,
the chair's blocks, the discrete lines, the local link, and start-up. A statement about a command that a rule gives an
effect concludes that `exec` answers a next state and says what that state holds and keeps. -/

section Statements

open Sys2Proof Sys2Proof.Machine

/-! ### The step -/

/-- The command at the front of the queue is executed with the queue's rest; on an empty queue one microsecond passes.
The queue and the idle step are the model's own (log entries 1 and 35). -/
def Obligations.StepRunsTheFrontCommand : Prop :=
  (∀ (c : Instr) (rest : List Instr) (s : State),
    step { s with pending := c :: rest } = exec c { s with pending := rest }) ∧
  (∀ s : State, s.pending = [] → step s = .next { s with now := s.now + 1 })

/-- Every command is answered by a next state, whatever the state: the spec gives every event and every request an
effect or says that it changes nothing. No command touches the queue, and none turns the clock back (the model's own
fields, log entries 1, 2 and 35). -/
def Obligations.EveryCommandIsAnswered : Prop :=
  ∀ (c : Instr) (s : State), ∃ t, exec c s = .next t ∧ t.pending = s.pending ∧ s.now ≤ t.now

/-! ### Invariants (each kept by every step from every state that meets it) -/

/-- The invariants hold in the state of a power-on that has just begun. Which restart stands for reset, and the pins
and straps at it, are the model's choice (log entries 4 to 6). -/
def Obligations.InvariantsHoldAtReset : Prop :=
  State.reset.MotionSafe ∧ State.reset.Bounded ∧ State.reset.TablesSound ∧ State.reset.AttnSound ∧
    State.reset.RolesSound

/-- R48, R132, R135, R158, R166: MOTION_ENABLE stands as R166 gives it, and the cap is within its bound and 0 while
MOTION_ENABLE is low. -/
def Obligations.EveryStepKeepsMotionSafe : Prop :=
  ∀ s t : State, s.MotionSafe → step s = .next t → t.MotionSafe

/-- R2, R8, R12, R55, R83, R167, R173, R181, R182: no buffer, queue, table or counter outgrows its size. -/
def Obligations.EveryStepKeepsTheBounds : Prop :=
  ∀ s t : State, s.Bounded → step s = .next t → t.Bounded

/-- R11, R54, R55, R83, R84, R92, R98: the Hold Table and the Call Board stay sound together. -/
def Obligations.EveryStepKeepsTheTablesSound : Prop :=
  ∀ s t : State, s.TablesSound → step s = .next t → t.TablesSound

/-- R160, R187: ATTN follows the attention condition. -/
def Obligations.EveryStepKeepsAttention : Prop :=
  ∀ s t : State, s.AttnSound → step s = .next t → t.AttnSound

/-- R21, R24, R51, R119, R137, R144, R161: each role keeps to its own state, and an inactive part to its restart values.
That a load which reads the chair strap clears the stop latch is the model's reading (log entry 37). -/
def Obligations.EveryStepKeepsTheRolesApart : Prop :=
  ∀ s t : State, s.RolesSound → step s = .next t → t.RolesSound

/-! ### Rules over all commands -/

/-- R24, R25: the epoch moves only by a grant, by exactly one, with the grant kept as the last grant; a restart sets the
record to FREE with epoch 0 and no last grant. -/
def Obligations.TheEpochMovesOnlyByAGrant : Prop :=
  ∀ (c : Instr) (s t : State), exec c s = .next t →
    t.record.epoch = s.record.epoch ∨
    (t.record.auth = .free ∧ t.record.epoch = 0 ∧ t.record.lastGrant = none) ∨
    (t.record.epoch = s.record.epoch + 1 ∧
      ∃ g, t.record.lastGrant = some g ∧ g.epoch = t.record.epoch ∧ g.holder = t.record.auth.holder? ∧
        g.mode = t.record.auth.mode? ∧ g.previous = s.record.auth.holder?)

/-- R130, R131, R135: only an envelope interval expiry raises the cap, and by at most Rup. -/
def Obligations.TheCapRisesOnlyAtAnInterval : Prop :=
  ∀ (c : Instr) (s t : State), exec c s = .next t →
    t.envelope.cap ≤ s.envelope.cap ∨
    (c = .envelopeIntervalExpiry ∧ t.envelope.cap ≤ s.envelope.cap + s.settings.rup)

/-- R161, R162, R164: a set stop latch keeps its cause through every command but a power-on, a fall of the supply, a
CLEAR from the current holder with the matching epoch, received while STOPCHAIN reads closed, and a load that reads the
strap of chair role, in which the latch stays clear. That a fall of the supply clears it at once, and that such a load
does, is the model's reading (log entries 19 and 37). -/
def Obligations.ASetLatchKeepsItsCause : Prop :=
  ∀ (c : Instr) (s t : State) (cause : StopCause), s.discrete.latch = some cause → exec c s = .next t →
    t.discrete.latch = some cause ∨ c = .powerOn ∨ c = .supplyFall ∨
    (c = .receptionComplete ∧ t.discrete.latch = none ∧
      ∃ f, s.TakesAsLoader f ∧ f.kind = .clear ∧ s.record.auth.current? = some f.source ∧
        f.epoch = s.record.epoch ∧ s.discrete.stopchain.active = true) ∨
    (t.discrete.latch = none ∧ t.startup.role = .chair ∧
      ∃ straps : Straps, straps.role = false ∧
        (c = .powerOnHoldExpiry straps ∨ c = .resetRise straps ∨ c = .messageSent straps))

/-! ### Layouts -/

/-- R3, R4, R8, Table 2-1: the check of the digits one to nine is 29B1 hexadecimal; and the bytes of every frame that a
station sends are 10 more than its body, and at a receiver they pass the receive check and give the frame back. -/
def Obligations.ASentFrameIsReceived : Prop :=
  crc16 [0x31, 0x32, 0x33, 0x34, 0x35, 0x36, 0x37, 0x38, 0x39] = 0x29B1 ∧
  ∀ (f : TxFrame) (source : Nat) (seq : Byte), 1 ≤ source → source ≤ 63 →
    (f.dest ≤ 63 ∨ (65 ≤ f.dest ∧ f.dest ≤ 72)) → f.loader ≤ 63 → f.body.length = f.kind.bodyLength →
    (f.bytes source seq).length = 10 + f.kind.bodyLength ∧
    receiveCheck (f.bytes source seq) (f.bytes source seq).length =
      some ⟨f.kind, source, f.dest, f.loader, f.epoch, seq, f.body⟩

/-- R172 to R175, Tables 10-1 and 10-4: the bytes of a request's message, heard one after another from the receiver
state HUNT, do what the request's row does. That the row stands for the message is the model's reading (log entry
14). -/
def Obligations.TheBytesOfARequestDoWhatItsRowDoes : Prop :=
  ∀ (c : Instr) (m : Message) (role : RequestRole) (s : State), requestMessage? c = some (m, role) →
    s.inService = true → s.link.receiver = .hunt →
    ∃ t, State.Hears m.bytes s t ∧ exec c s = .next t

/-! ### The Line Interface Unit -/

/-- R2, R16, R17, R20, R21: a rise of LCD while LKEY is low begins a reception, whether the LIU is active or not. In an
active LIU it starts the line-blocked timer; in WAIT the head's window doubles up to 32 and access returns to GAP. While
LKEY is raised, or the part is held, only the pin changes. A byte of a reception under way is counted, and stored up to
the 26th; any other is discarded. At its expiry the line-blocked timer raises LINE_BLOCKED and starts again. The moment
of the expiry is its own, and that the frame in WAIT is the head, that an inactive LIU receives, and when the part is
held, are the model's reading (log entries 2, 9 and 18). -/
def Obligations.TheLineIsHeard : Prop :=
  (∀ s : State, s.active = true → s.liu.lkey = false → s.liu.lcd = false → (∀ d, s.liu.access ≠ .wait d) →
    exec .lcdRise s = .next { s with liu := { s.liu with
      lcd := true, receiving := true, rxBuffer := [], rxCount := 0, blocked := some (s.now + sec 2) } }) ∧
  (∀ (s : State) (d : Nat) (f : TxFrame) (rest : List TxFrame), s.active = true → s.liu.lkey = false →
    s.liu.lcd = false → s.liu.access = .wait d → s.liu.frames = f :: rest →
    ∃ q, exec .lcdRise s = .next { s with liu := q } ∧
      q.frames = { f with window := min 32 (2 * f.window) } :: rest ∧
      q = { s.liu with
        lcd := true, receiving := true, rxBuffer := [], rxCount := 0, blocked := some (s.now + sec 2)
        access := .gap, classS := q.classS, classA := q.classA, classC := q.classC } ∧
      q.classS.length = s.liu.classS.length ∧ q.classA.length = s.liu.classA.length) ∧
  (∀ s : State, s.inService = true → s.active = false → s.liu.lkey = false → s.liu.lcd = false →
    exec .lcdRise s = .next { s with liu := { s.liu with
      lcd := true, receiving := true, rxBuffer := [], rxCount := 0 } }) ∧
  (∀ s : State, s.liu.lkey = true ∨ s.inService = false → s.liu.lcd = false →
    exec .lcdRise s = .next { s with liu := { s.liu with lcd := true } }) ∧
  (∀ (s : State) (b : Byte), s.inService = true → s.liu.lkey = false → s.liu.lcd = true → s.liu.receiving = true →
    s.liu.rxBuffer.length ≤ 26 →
    exec (.lrxdByteReceived b) s = .next { s with liu := { s.liu with
      rxBuffer := (s.liu.rxBuffer ++ [b]).take 26, rxCount := s.liu.rxCount + 1 } }) ∧
  (∀ (s : State) (b : Byte),
    s.liu.lkey = true ∨ s.liu.lcd = false ∨ s.liu.receiving = false ∨ s.inService = false →
    exec (.lrxdByteReceived b) s = .next s) ∧
  (∀ (s : State) (due : Nat), s.active = true → s.liu.blocked = some due →
    ∃ k, exec .lineBlockedExpiry s = .next { s with
        now := max s.now due, liu := { s.liu with blocked := some (max s.now due + sec 2) }, link := k } ∧
      s.link.Posts [] 0x0080 k)

/-- R2, R8, R9, R20, R21: at the fall of LCD a frame that fails the receive check is dropped and counted, saturating at
65535, and the buffer is empty again. A frame that carries this unit's own station as its source raises DUPLICATE_STATION
in either role, sets the stop latch in loader role for the duplicate-station cause, and is given to no other block. An
inactive LIU empties the buffer and judges nothing, and a fall with no reception under way counts nothing. That an
inactive LIU receives, and when the part is held, are the model's reading (log entry 18). -/
def Obligations.ABadFrameIsDroppedAndAnOwnSourceIsADuplicate : Prop :=
  (∀ s : State, s.active = true → s.liu.lcd = true → s.liu.lkey = false → s.liu.receiving = true →
    receiveCheck s.liu.rxBuffer s.liu.rxCount = none →
    exec .receptionComplete s = .next { s with liu := { s.liu with
      lcd := false, gapFrom := s.now, blocked := none, receiving := false, rxBuffer := [], rxCount := 0
      badFrames := min 65535 (s.liu.badFrames + 1) } }) ∧
  (∀ s : State, s.active = true → s.liu.lcd = true → s.liu.lkey = false → s.liu.receiving = false →
    exec .receptionComplete s = .next s.received) ∧
  (∀ s : State, s.inService = true → s.active = false → s.liu.lcd = true → s.liu.lkey = false →
    exec .receptionComplete s = .next { s with liu := { s.liu with
      lcd := false, receiving := false, rxBuffer := [], rxCount := 0 } }) ∧
  (∀ s : State, s.liu.lcd = true → s.liu.lkey = true ∨ s.inService = false →
    exec .receptionComplete s = .next { s with liu := { s.liu with lcd := false } }) ∧
  (∀ (s : State) (f : RxFrame), s.Receives f → f.source = s.station → s.startup.role = .chair →
    ∃ k, exec .receptionComplete s = .next { s.received with link := k } ∧ s.link.Posts [] 0x0100 k) ∧
  (∀ (s : State) (f : RxFrame), s.Receives f → f.source = s.station → s.startup.role = .loader →
    s.link.notices.length < 32 →
    ∃ t, exec .receptionComplete s = .next t ∧ s.received.LatchedBy .duplicate t ∧
      s.link.Posts (s.latchNotices .duplicate) 0x0104 t.link)

/-- R16, R17, R18, R3: at the gap, WAIT begins with a draw below the window of the head; at the expiry of the wait the
head leaves the queue, its source, sequence, length and check are filled, and LKEY is raised. Each moment is
its own, that the candidate is the head is the model's reading, and the draw is free (log entries 2, 7 and 9). -/
def Obligations.TheGapAndTheWaitLeadToASending : Prop :=
  (∀ (s : State) (f : TxFrame) (rest : List TxFrame), s.active = true → s.liu.lcd = false → s.liu.access = .gap →
    s.liu.frames = f :: rest → 0 < f.window →
    ∃ k, k < f.window ∧ exec .gapMet s = .next { s with
      now := max s.now (s.liu.gapFrom + ms 3)
      liu := { s.liu with
        access := .wait (max s.now (s.liu.gapFrom + ms 3) + k * ms 2), draws := s.liu.draws + 1 } }) ∧
  (∀ (s : State) (due : Nat) (f : TxFrame) (rest : List TxFrame), s.active = true → s.liu.lcd = false →
    s.liu.access = .wait due → s.liu.frames = f :: rest →
    ∃ q, exec .waitExpiry s = .next { s with now := max s.now due, liu := q } ∧ q.frames = rest ∧
      q = { s.liu with
        lkey := true
        access := .sending ⟨f, f.bytes s.station s.liu.sequence, max s.now due, false⟩
        classS := q.classS, classA := q.classA, classC := q.classC })

/-- R1, R2, R18 to R20, R27, R57, R64, R167, R171: 4 ms after LKEY the bytes go out. At the completion LKEY falls, the
sequence counter moves on, access enters GAP when the queue holds a frame and IDLE when it is empty, and an LCD that
is raised by then begins a reception. The block that gave the frame is informed: a STATUS starts the status timer for
S × P; an outstanding frame starts its answer deadline afresh for 4 × P; an OFFER starts its offer deadline; a STOP
clears the outstanding mark, and the first entry of the stop list, if it is due, is given and sets the mark again; a
CLEAR clears the unsent mark. The moment of the completion is that of the last bit, and frames are told apart by the
model's own reference numbers (log entries 2, 10 and 31). -/
def Obligations.ASendingRunsToItsCompletion : Prop :=
  (∀ (s : State) (out : Sending), s.active = true → s.liu.access = .sending out → out.leadOver = false →
    exec .keyUpLeadExpiry s = .next { s with
      now := max s.now (out.started + ms 4)
      liu := { s.liu with access := .sending { out with leadOver := true }, ltxd := out.bytes } }) ∧
  (∀ (s : State) (out : Sending), s.active = true → s.liu.access = .sending out → out.leadOver = true →
    let now := max s.now out.endsAt
    let lowered : Liu :=
      { s.liu with
        lkey := false, ltxd := [], sequence := s.liu.sequence + 1, gapFrom := now
        access := if s.liu.frames = [] then .idle else .gap }
    let q : Liu :=
      if s.liu.lcd = true then
        { lowered with receiving := true, rxBuffer := [], rxCount := 0, blocked := some (now + sec 2) }
      else lowered
    (out.frame.owner = .plain → exec .sendingComplete s = .next { s with now, liu := q }) ∧
    (out.frame.owner = .status →
      exec .sendingComplete s = .next { s with
        now, liu := q, record := { s.record with statusTimer := some (now + ms (s.settings.s * s.settings.p)) } }) ∧
    (∀ ref, out.frame.owner = .outstanding ref →
      let renewed (o : Outstanding) : Outstanding :=
        if o.ref = ref then { o with deadline := now + ms (4 * s.settings.p) } else o
      exec .sendingComplete s = .next { s with
        now, liu := q
        holds := { s.holds with entries := s.holds.entries.map fun e =>
          match e.phase with
          | .acquiring g o => { e with phase := .acquiring g (renewed o) }
          | .releasing o => { e with phase := .releasing (renewed o) }
          | _ => e } }) ∧
    (∀ ref, out.frame.owner = .offer ref →
      exec .sendingComplete s = .next { s with
        now, liu := q
        holds := { s.holds with entries := s.holds.entries.map fun e =>
          match e.phase with
          | .offering o =>
            if o.ref = ref then { e with phase := .offering { o with deadline := some (now + o.span) } } else e
          | _ => e } }) ∧
    (out.frame.owner = .stop →
      (∀ e ∈ s.discrete.stopList.head?, now < e.notBefore) →
      exec .sendingComplete s = .next { s with
        now, liu := q, discrete := { s.discrete with stopOutstanding := false } }) ∧
    (∀ e ∈ s.discrete.stopList.head?, out.frame.owner = .stop → e.notBefore ≤ now → s.liu.classS.length < 2 →
      exec .sendingComplete s = .next { s with
        now
        liu := { q with
          access := .gap
          classS := s.liu.classS ++ [TxFrame.make .stop e.loader e.loader
            ((s.entry? e.loader).map (·.epoch) |>.getD 0) [e.reason] .stop] }
        discrete := { s.discrete with stopList := s.discrete.stopList.tail, stopOutstanding := true } }) ∧
    (out.frame.owner = .clear →
      exec .sendingComplete s = .next { s with
        now, liu := q, discrete := { s.discrete with clearUnsent := false } }))

/-! ### Aboard a loader: frames -/

/-- R25, R26, R29 to R32: a CLAIM for this loader is granted or refused by the record, as the rows of R32 give, after
the tests of the mode byte (R30) and of the lost grant (R31). The freshness of a grant's record is the model's reading
(log entry 21). -/
def Obligations.AClaimIsJudgedByTheRecord : Prop :=
  (∀ (s : State) (f : RxFrame) (m : Mode), s.TakesAsLoader f → f.kind = .claim → modeOf? (f.at 0) = some m →
    ¬ (s.record.auth.current? = some f.source ∧ s.record.lastGrant.bind (·.holder) = some f.source ∧
        f.epoch = s.record.epoch - 1) →
    s.liu.classA.length < 8 → s.link.notices.length < 32 →
    (s.record.auth = .free ∨
     (∃ hm o, s.record.auth = .held f.source hm o ∧ f.epoch = s.record.epoch) ∨
     (∃ h tag n, s.record.auth = .assist h tag n ∧ m = .drive) ∨
     (∃ hm d, s.record.auth = .orphan f.source hm d ∧ f.epoch = s.record.epoch)) →
    ∃ t, exec .receptionComplete s = .next t ∧ s.received.GrantedTo (some (f.source, m)) t ∧
      s.link.StatePosted t.stateNotice t.link ∧ s.link.SameSlot t.link) ∧
  (∀ (s : State) (f : RxFrame) (r : RefuseReason), s.TakesAsLoader f → f.kind = .claim →
    s.liu.classA.length < 8 →
    ((modeOf? (f.at 0) = none ∧ r = .badMode) ∨
     (∃ m, modeOf? (f.at 0) = some m ∧
      ((s.record.auth.current? = some f.source ∧ s.record.lastGrant.bind (·.holder) = some f.source ∧
          f.epoch = s.record.epoch - 1 ∧ r = .taken) ∨
       (¬ (s.record.auth.current? = some f.source ∧ s.record.lastGrant.bind (·.holder) = some f.source ∧
          f.epoch = s.record.epoch - 1) ∧
        ((∃ hm o, s.record.auth = .held f.source hm o ∧ f.epoch ≠ s.record.epoch ∧ r = .staleEpoch) ∨
         (∃ h hm o, s.record.auth = .held h hm o ∧ h ≠ f.source ∧ r = .taken) ∨
         (∃ h hm i, s.record.auth = .transfer h hm i ∧ r = .taken) ∨
         (∃ h tag n, s.record.auth = .assist h tag n ∧ m = .supervise ∧ r = .badMode) ∨
         (∃ hm d, s.record.auth = .orphan f.source hm d ∧ f.epoch ≠ s.record.epoch ∧ r = .staleEpoch) ∨
         (∃ h hm d, s.record.auth = .orphan h hm d ∧ h ≠ f.source ∧ r = .reserved)))))) →
    ∃ q, exec .receptionComplete s = .next { s.received with liu := q } ∧
      Liu.Joined (TxFrame.make .refuse f.source s.station s.record.epoch
        [r.code, byte (s.record.auth.holder?.getD 0), 0x25]) s.received.liu q)

/-- R33, R34: a SEIZE is refused NOT_SENIOR from a station outside the senior set; from a senior station that the
lost-grant test does not stop, it is granted in FREE and ORPHAN, and in the other states granted at standstill and
refused MOVING otherwise. The freshness of a grant's record is the model's reading (log entry 21). -/
def Obligations.ASeizeNeedsASeniorAndAStandstill : Prop :=
  ∀ (s : State) (f : RxFrame) (m : Mode), s.TakesAsLoader f → f.kind = .seize → modeOf? (f.at 0) = some m →
    s.liu.classA.length < 8 → s.link.notices.length < 32 →
    (f.source ∉ s.settings.seniorSet →
      ∃ q, exec .receptionComplete s = .next { s.received with liu := q } ∧
        Liu.Joined (TxFrame.make .refuse f.source s.station s.record.epoch
          [9, byte (s.record.auth.holder?.getD 0), 0x26]) s.received.liu q) ∧
    (f.source ∈ s.settings.seniorSet →
      ¬ (s.record.auth.current? = some f.source ∧ s.record.lastGrant.bind (·.holder) = some f.source ∧
          f.epoch = s.record.epoch - 1) →
      (s.record.auth.current? = none ∨
        (∃ r, s.link.lastReport = some r ∧ -1 ≤ r.speed.toInt ∧ r.speed.toInt ≤ 1 ∧
          s.now - r.arrived ≤ ms (10 * s.settings.p)) →
        ∃ t, exec .receptionComplete s = .next t ∧ s.received.GrantedTo (some (f.source, m)) t ∧
          s.link.StatePosted t.stateNotice t.link ∧ s.link.SameSlot t.link) ∧
      (s.record.auth.current?.isSome →
        (∀ r, s.link.lastReport = some r → r.speed.toInt < -1 ∨ 1 < r.speed.toInt ∨
          ms (10 * s.settings.p) < s.now - r.arrived) →
        ∃ q, exec .receptionComplete s = .next { s.received with liu := q } ∧
          Liu.Joined (TxFrame.make .refuse f.source s.station s.record.epoch
            [10, byte (s.record.auth.holder?.getD 0), 0x26]) s.received.liu q))

/-- R31, R35 to R37, R39, R41: the frames of a handover. An OFFER from the holder puts HELD into TRANSFER with the
deadline of R36, and in TRANSFER replaces the incoming party, with a STATUS and no lowering evaluation. The ACCEPT of
the incoming station, or of any station but the holder for a pool, with the matching epoch and the offered mode, is
granted; one that the lost-grant test passes is answered by the last GRANT again. The holder's WITHDRAW returns TRANSFER
to HELD; a RELEASE from the holder, suspended or not, with the matching epoch is a grant to none. The freshness of a
grant's record is the model's reading (log entry 21). -/
def Obligations.AHandoverIsOfferedAcceptedWithdrawnOrReleased : Prop :=
  ∀ (s : State) (f : RxFrame), s.TakesAsLoader f → s.liu.classA.length < 8 → s.link.notices.length < 32 →
    let deadline := s.now + min (ms (100 * max 1 (min (f.halfAt 1).toNat 300))) (sec s.settings.tx)
    (∀ m hm o, f.kind = .offer → modeOf? (f.at 0) = some m → s.record.auth = .held f.source hm o →
      f.epoch = s.record.epoch → f.dest ≠ 0 → f.dest ≠ f.source → f.dest ≠ s.station →
      ∃ t, exec .receptionComplete s = .next t ∧
        s.received.TurnedInto (.transfer f.source hm ⟨Party.ofCode f.dest, m, deadline⟩) t ∧
        s.link.StatePosted t.stateNotice t.link ∧ s.link.SameSlot t.link) ∧
    (∀ m hm i, f.kind = .offer → modeOf? (f.at 0) = some m → s.record.auth = .transfer f.source hm i →
      f.epoch = s.record.epoch → f.dest ≠ 0 → f.dest ≠ f.source → f.dest ≠ s.station →
      ∃ t, exec .receptionComplete s = .next t ∧
        t = { s.received with
          record := { s.record with auth := .transfer f.source hm ⟨Party.ofCode f.dest, m, deadline⟩ }
          liu := t.liu, link := t.link } ∧
        Liu.Joined t.statusFrame s.received.liu t.liu ∧
        s.link.StatePosted t.stateNotice t.link ∧ s.link.SameSlot t.link) ∧
    (∀ h hm m p d, f.kind = .accept → modeOf? (f.at 0) = some m → s.record.auth = .transfer h hm ⟨p, m, d⟩ →
      p = .station f.source ∨ (∃ n, p = .pool n) → h ≠ f.source → f.epoch = s.record.epoch →
      ∃ t, exec .receptionComplete s = .next t ∧ s.received.GrantedTo (some (f.source, m)) t ∧
        s.link.StatePosted t.stateNotice t.link ∧ s.link.SameSlot t.link) ∧
    (∀ m g, f.kind = .accept → modeOf? (f.at 0) = some m → s.record.auth.current? = some f.source →
      s.record.lastGrant = some g → g.holder = some f.source → f.epoch = s.record.epoch - 1 →
      ∃ q, exec .receptionComplete s = .next { s.received with liu := q } ∧
        Liu.Joined (TxFrame.make .grant 0 s.station g.epoch
          [byte f.source, modeCode? g.mode, byte (g.previous.getD 0)]) s.received.liu q) ∧
    (∀ hm i, f.kind = .withdraw → s.record.auth = .transfer f.source hm i → f.epoch = s.record.epoch →
      ∃ t, exec .receptionComplete s = .next t ∧ s.received.TurnedInto (.held f.source hm none) t ∧
        s.link.StatePosted t.stateNotice t.link ∧ s.link.SameSlot t.link) ∧
    (f.kind = .release → s.record.auth.holder? = some f.source → f.epoch = s.record.epoch →
      ∃ t, exec .receptionComplete s = .next t ∧ s.received.GrantedTo none t ∧
        s.link.StatePosted t.stateNotice t.link ∧ s.link.SameSlot t.link)

/-- R29 to R31, R35, R37, R39, R41, R47: the refusals of an OFFER, an ACCEPT, a RELEASE and a CLEAR, in the order of
their tests, with those of a SEIZE that R30 and R31 give: each is answered by one REFUSE with the reason, the holder
and the refused kind, and changes nothing. A WITHDRAW from another station, in another state or with another epoch
draws no frame. -/
def Obligations.AFrameAboutTheHoldIsRefused : Prop :=
  (∀ (s : State) (f : RxFrame) (r : RefuseReason), s.TakesAsLoader f → s.liu.classA.length < 8 →
    let state := s.record.auth.state
    let matching := f.epoch = s.record.epoch
    let current := s.record.auth.current? = some f.source
    let lostGrant :=
      current ∧ s.record.lastGrant.bind (·.holder) = some f.source ∧ f.epoch = s.record.epoch - 1
    let admitted (p : Party) (h : Nat) := p = .station f.source ∨ ((∃ n, p = .pool n) ∧ f.source ≠ h)
    (((f.kind = .offer ∨ f.kind = .accept ∨ f.kind = .seize) ∧ modeOf? (f.at 0) = none ∧ r = .badMode) ∨
     (f.kind = .seize ∧ modeOf? (f.at 0) ≠ none ∧ f.source ∈ s.settings.seniorSet ∧ lostGrant ∧ r = .taken) ∨
     (f.kind = .offer ∧ modeOf? (f.at 0) ≠ none ∧
      ((¬ current ∧ r = .notHolder) ∨
       (current ∧ ¬ matching ∧ r = .staleEpoch) ∨
       (current ∧ matching ∧ state = .assist ∧ r = .busyAssist) ∨
       (current ∧ matching ∧ state ≠ .assist ∧ (f.dest = 0 ∨ f.dest = f.source ∨ f.dest = s.station) ∧
          r = .badTarget))) ∨
     (f.kind = .accept ∧ ¬ lostGrant ∧ ∃ m, modeOf? (f.at 0) = some m ∧
      ((∃ h hm i, s.record.auth = .transfer h hm i ∧
          ((¬ admitted i.party h ∧ r = .notOffered) ∨
           (admitted i.party h ∧ ¬ matching ∧ r = .staleEpoch) ∨
           (admitted i.party h ∧ matching ∧ m ≠ i.mode ∧ r = .badMode))) ∨
       (∃ h hm o, s.record.auth = .held h hm (some o) ∧
          ((admitted o.party h ∧ r = .late) ∨ (¬ admitted o.party h ∧ r = .notOffered))) ∨
       ((state = .free ∨ state = .assist ∨ ∃ h hm, s.record.auth = .held h hm none) ∧ r = .notOffered) ∨
       (state = .orphan ∧ r = .reserved))) ∨
     (f.kind = .release ∧
      ((s.record.auth.holder? ≠ some f.source ∧ r = .notHolder) ∨
       (s.record.auth.holder? = some f.source ∧ ¬ matching ∧ r = .staleEpoch))) ∨
     (f.kind = .clear ∧ ((¬ current ∧ r = .notHolder) ∨ (current ∧ ¬ matching ∧ r = .staleEpoch)))) →
    ∃ q, exec .receptionComplete s = .next { s.received with liu := q } ∧
      Liu.Joined (TxFrame.make .refuse f.source s.station s.record.epoch
        [r.code, byte (s.record.auth.holder?.getD 0), f.kind.code]) s.received.liu q) ∧
  (∀ (s : State) (f : RxFrame), s.TakesAsLoader f → f.kind = .withdraw →
    s.record.auth.state ≠ .transfer ∨ s.record.auth.current? ≠ some f.source ∨ f.epoch ≠ s.record.epoch →
    exec .receptionComplete s = .next s.received)

/-- R38: a DECLINE that a loader takes, from any station and in any state, changes nothing and draws no frame. -/
def Obligations.ADeclineLeavesTheRecord : Prop :=
  ∀ (s : State) (f : RxFrame), s.TakesAsLoader f → f.kind = .decline →
    exec .receptionComplete s = .next s.received

/-- R47, R150, R162 to R164: a STOP for this loader, or a STOP ALL, from any station and with any epoch, sets the
latch with its reason and source, and one that finds it clear gives the zeroed record. A CLEAR from the current holder
with the matching epoch, the chain closed, clears a set latch: the cap stays, MOTION_ENABLE is judged, and a STATUS
and a LATCH notice follow; a latch that is clear stays so, without a frame. With the chain open it is refused
CHAIN_OPEN. The freshness of the zeroed record is the model's reading (log entry 21). -/
def Obligations.AStopSetsAndAClearClearsTheLatch : Prop :=
  (∀ (s : State) (f : RxFrame), s.Receives f → s.startup.role = .loader → f.source ≠ s.station → f.kind = .stop →
    f.loader = s.station ∨ f.loader = 0 → s.link.notices.length < 32 →
    ∃ t, exec .receptionComplete s = .next t ∧ s.received.LatchedBy (.frame (f.at 0) f.source) t ∧
      s.link.Gave s.now (if s.discrete.latch = none then some {} else none) t.link ∧
      s.link.Posts (s.latchNotices (.frame (f.at 0) f.source)) 0x0004 t.link) ∧
  (∀ (s : State) (f : RxFrame) (cause : StopCause), s.TakesAsLoader f → f.kind = .clear →
    s.record.auth.current? = some f.source → f.epoch = s.record.epoch → s.discrete.stopchain.active = true →
    s.discrete.latch = some cause → s.link.notices.length < 32 →
    ∃ t, exec .receptionComplete s = .next t ∧
      t = { s.received with
        discrete := { s.discrete with latch := none, motionEnable := true }, liu := t.liu, link := t.link } ∧
      Liu.Joined t.statusFrame s.received.liu t.liu ∧ s.link.Posts [.latch none] 0 t.link) ∧
  (∀ (s : State) (f : RxFrame), s.TakesAsLoader f → f.kind = .clear → s.record.auth.current? = some f.source →
    f.epoch = s.record.epoch → s.discrete.stopchain.active = true → s.discrete.latch = none →
    exec .receptionComplete s = .next s.received) ∧
  (∀ (s : State) (f : RxFrame), s.TakesAsLoader f → f.kind = .clear → s.record.auth.current? = some f.source →
    f.epoch = s.record.epoch → s.discrete.stopchain.active = false → s.liu.classA.length < 8 →
    ∃ q, exec .receptionComplete s = .next { s.received with liu := q } ∧
      Liu.Joined (TxFrame.make .refuse f.source s.station s.record.epoch [11, byte f.source, 0x32])
        s.received.liu q)

/-- R105 to R107, R146, R150, R152: in a DRIVE hold, in HELD or TRANSFER, the holder's DRIVE frame with the matching
epoch and a newer sequence is taken: the Monitor's times, the open-slot mark and the taken mark are set, the lapse
timer starts afresh, and the NEW record is given to the command stream, that of R146 or, with the latch set or the
chain open, the zeroed one. A frame from another station, of another epoch, or not newer than a sequence remembered no
more than 16 × P ago is not taken and changes nothing. -/
def Obligations.AGoodDriveFrameBecomesARecord : Prop :=
  ∀ (s : State) (f : RxFrame) (h : Nat), s.TakesAsLoader f → f.kind = .drive →
    s.record.auth.current? = some h → s.record.auth.mode? = some .drive → s.monitor.view = s.record.view →
    ((f.source = h ∧ f.epoch = s.record.epoch ∧
        (∀ r, s.monitor.remembered = some r →
          ms (16 * s.settings.p) < s.now - r.taken ∨
            (1 ≤ (f.seq - r.seq).toNat ∧ (f.seq - r.seq).toNat ≤ 127)) →
      let deadman := (f.at 5).getLsbD 0
      let record : CommandRecord :=
        if s.discrete.latch.isSome = true ∨ s.discrete.stopchain.active = false then { freshness := .new }
        else
          { mode := some .drive
            steer := max (-100) (min (f.at 0).toInt 100)
            travel := passedTravel s.envelope.cap s.settings.vrev (f.at 5) (f.halfAt 1).toInt
            boom := if deadman then max (-100) (min (f.at 3).toInt 100) else 0
            bucket := if deadman then max (-100) (min (f.at 4).toInt 100) else 0
            cap := s.envelope.cap
            continueOk := false
            motion := s.discrete.motionEnable
            freshness := .new }
      exec .receptionComplete s = .next { s.received with
        monitor := { s.monitor with
          lastHolderAt := some s.now, remembered := some ⟨f.seq, s.now⟩, openMark := true
          lapse := some (s.now + ms (s.settings.l * s.settings.p)) }
        relay := { s.relay with taken := true, lastRecord := record }
        link := s.link.withRecord s.now record }) ∧
     (f.source ≠ h ∨ f.epoch ≠ s.record.epoch ∨
        (∃ r, s.monitor.remembered = some r ∧ s.now - r.taken ≤ ms (16 * s.settings.p) ∧
          ¬ (1 ≤ (f.seq - r.seq).toNat ∧ (f.seq - r.seq).toNat ≤ 127)) →
      exec .receptionComplete s = .next s.received))

/-- R105 to R107, R126, R131, R145, R147, R150: the take of a good SUPERVISE frame, in HELD, TRANSFER or ASSIST: the
permit follows the continue field; a permit set to no lowers the cap to 0 at once; the Monitor's times are set and the
lapse timer starts afresh; the NEW record is given, with mode SUPERVISE, no axes, the cap that the take left, and
continue when the permit is yes and the state is not ASSIST, or, with the latch set or the chain open, the zeroed one. A
frame that is not newer, of another epoch or from another station, a holder frame of the other mode's kind, and one
while there is no current holder are not taken and change nothing. -/
def Obligations.AGoodSuperviseFrameSetsThePermit : Prop :=
  (∀ (s : State) (f : RxFrame) (h : Nat), s.TakesAsLoader f → f.kind = .supervise →
    s.record.auth.current? = some h → s.record.auth.mode? = some .supervise → s.monitor.view = s.record.view →
    s.relay.view = s.record.view →
    ((f.source = h ∧ f.epoch = s.record.epoch ∧
        (∀ r, s.monitor.remembered = some r →
          ms (16 * s.settings.p) < s.now - r.taken ∨
            (1 ≤ (f.seq - r.seq).toNat ∧ (f.seq - r.seq).toNat ≤ 127)) →
      let cap := if f.at 0 = 1 then s.envelope.cap else 0
      let record : CommandRecord :=
        if s.discrete.latch.isSome = true ∨ s.discrete.stopchain.active = false then { freshness := .new }
        else
          { mode := some .supervise, cap
            continueOk := decide (f.at 0 = 1 ∧ s.record.auth.state ≠ .assist)
            motion := s.discrete.motionEnable, freshness := .new }
      exec .receptionComplete s = .next { s.received with
        monitor := { s.monitor with
          lastHolderAt := some s.now, remembered := some ⟨f.seq, s.now⟩
          lapse := some (s.now + ms (4 * s.settings.l * s.settings.p)) }
        envelope := { s.envelope with cap, permit := decide (f.at 0 = 1) }
        relay := { s.relay with taken := true, lastRecord := record }
        link := s.link.withRecord s.now record }) ∧
     (f.source ≠ h ∨ f.epoch ≠ s.record.epoch ∨
        (∃ r, s.monitor.remembered = some r ∧ s.now - r.taken ≤ ms (16 * s.settings.p) ∧
          ¬ (1 ≤ (f.seq - r.seq).toNat ∧ (f.seq - r.seq).toNat ≤ 127)) →
      exec .receptionComplete s = .next s.received))) ∧
  (∀ (s : State) (f : RxFrame), s.TakesAsLoader f → s.monitor.view = s.record.view →
    (f.kind = .drive ∧ s.record.auth.mode? ≠ some .drive) ∨
      (f.kind = .supervise ∧ s.record.auth.mode? ≠ some .supervise) ∨
      ((f.kind = .drive ∨ f.kind = .supervise) ∧ s.record.auth.current? = none) →
    exec .receptionComplete s = .next s.received)

/-! ### Aboard a loader: timers -/

/-- R27, R40, R42, R43, R45, R112, R150, R159: the timers aboard a loader. The transfer deadline returns TRANSFER to
HELD and keeps the offer as the last lapsed offer; the lapse timer puts HELD, TRANSFER and ASSIST into ORPHAN for Tr
seconds, with the zeroed record; the reclaim deadline makes a grant to none. In ASSIST another ASSIST_CALL to the home
pool joins the queue every 2 s; the status timer gives one STATUS and waits for the next completion; the flashing
indicator changes every 500 ms. Each happens at its own moment, and the freshness of the zeroed and neutral records is
the model's reading (log entries 2 and 21). -/
def Obligations.TheTimersOfALoaderExpire : Prop :=
  (∀ s : State, s.activeAs .loader = true → s.liu.classA.length < 8 → s.link.notices.length < 32 →
    (∀ h m i, s.record.auth = .transfer h m i →
      ∃ t, exec .transferDeadlineExpiry s = .next t ∧
        State.TurnedInto (.held h m (some ⟨i.party, i.mode⟩)) { s with now := max s.now i.deadline } t ∧
        s.link.StatePosted t.stateNotice t.link ∧ s.link.SameSlot t.link) ∧
    (∀ h m due, s.monitor.lapse = some due → s.record.auth.current? = some h → s.record.auth.mode? = some m →
      ∃ t, exec .lapseTimerExpiry s = .next t ∧
        State.TurnedInto (.orphan h m (max s.now due + sec s.settings.tr))
          { s with now := max s.now due, monitor := { s.monitor with lapse := none } } t ∧
        s.link.StatePosted t.stateNotice t.link ∧ s.link.SameSlot t.link) ∧
    (∀ h m d, s.record.auth = .orphan h m d →
      ∃ t, exec .reclaimDeadlineExpiry s = .next t ∧
        State.GrantedTo none { s with now := max s.now d } t ∧
        s.link.StatePosted t.stateNotice t.link ∧ s.link.SameSlot t.link)) ∧
  (∀ (s : State) (h : Nat) (tag : Half) (due : Nat), s.activeAs .loader = true → s.liu.classA.length < 8 →
    s.record.auth = .assist h tag due →
    ∃ q, exec .assistRepeatExpiry s = .next { s with
        now := max s.now due, record := { s.record with auth := .assist h tag (max s.now due + sec 2) }, liu := q } ∧
      Liu.Joined (TxFrame.make .assistCall (64 + s.settings.homePool) s.station s.record.epoch (bytesOfHalf tag))
        s.liu q) ∧
  (∀ (s : State) (due : Nat), s.activeAs .loader = true → s.record.statusTimer = some due →
    ∃ t, exec .statusTimerExpiry s = .next t ∧
      t = { s with now := max s.now due, record := { s.record with statusTimer := none }, liu := t.liu } ∧
      Liu.Joined t.statusFrame s.liu t.liu) ∧
  (∀ (s : State) (due : Nat), s.activeAs .loader = true → s.discrete.flash = some due →
    exec .indicatorFlash s = .next { s with
      now := max s.now due
      discrete := { s.discrete with
        indicator := !s.discrete.indicator, flash := some (max s.now due + ms 500) } })

/-- R109, R110, R120 to R130, R145, R148, R150, R151: an envelope interval expiry, which starts the timer again for P.
In a DRIVE hold the slot is scored and the cap is the link term, the age term and the alert term in turn; in a
SUPERVISE hold it is Vauto while the permit is yes and the age at most 8 × P, else 0; then come the phase term of
TRANSFER, the zone term with Vcrawl for a stale REPORT, and the rise limit, each division rounded down; with the latch
set, the chain open, or in ASSIST the cap is 0. When no good frame has been taken in the interval, or the cap has
fallen below the last record's, the REPEAT record of R148 is given; in the zeroing condition it is the zeroed one, and
only when no good frame has been taken. Without a current holder the cap is 0 and the window stays. The moment is the
expiry's own, ages are whole milliseconds, and the freshness of the zeroed record is the model's reading (log entries
2, 21 and 30). -/
def Obligations.AnIntervalScoresTheSlotAndRaisesTheCap : Prop :=
  (∀ (s : State) (h due heard : Nat) (m : Mode), s.activeAs .loader = true → s.envelope.timer = some due →
    s.record.auth.current? = some h → s.record.auth.mode? = some m → s.monitor.view = s.record.view →
    s.relay.view = s.record.view → s.monitor.lastHolderAt = some heard → s.monitor.window.length = 8 →
    let now := max s.now due
    let state := s.record.auth.state
    let window := if m = .drive then s.monitor.window.tail ++ [s.monitor.openMark] else s.monitor.window
    let age := (now - heard) / 1000
    let vq := s.settings.vmax * window.count true / 8
    let tf := 2 * s.settings.p
    let tl := s.settings.l * s.settings.p
    let va := if age ≤ tf then vq else if age < tl then vq * (tl - age) / (tl - tf) else 0
    let vb :=
      if m = .drive then (if window.drop 5 = [false, false, false] then min va s.settings.vcrawl else va)
      else if s.envelope.permit = true ∧ age ≤ 8 * s.settings.p then s.settings.vauto
      else 0
    let vp := if state = .transfer then min vb s.settings.vcrawl else vb
    let vz :=
      match s.link.lastReport with
      | none => vp
      | some r =>
        if now - r.arrived ≤ ms (10 * s.settings.p) then min vp (r.zone.getD vp) else min vp s.settings.vcrawl
    let zeroing := s.discrete.latch.isSome = true ∨ s.discrete.stopchain.active = false
    let cap := if zeroing ∨ state = .assist then 0 else min vz (s.envelope.cap + s.settings.rup)
    let last := s.relay.lastRecord
    let repeated : CommandRecord :=
      { mode := last.mode, steer := last.steer
        travel := if tf < age then 0 else max (-(min cap s.settings.vrev : Nat)) (min last.travel cap)
        boom := if tf < age then 0 else last.boom
        bucket := if tf < age then 0 else last.bucket
        cap
        continueOk := decide (m = .supervise ∧ state ≠ .assist ∧ s.envelope.permit = true ∧
          age ≤ 8 * s.settings.p)
        motion := s.discrete.motionEnable }
    let given : Option CommandRecord :=
      if zeroing then (if s.relay.taken = true then none else some {})
      else if s.relay.taken = false ∨ cap < last.cap then some repeated
      else none
    exec .envelopeIntervalExpiry s = .next { s with
      now
      envelope := { s.envelope with timer := some (now + ms s.settings.p), cap }
      monitor := { s.monitor with window, openMark := false }
      relay := { s.relay with taken := false, lastRecord := given.getD last }
      link := match given with | none => s.link | some r => s.link.withRecord now r }) ∧
  (∀ (s : State) (due : Nat), s.activeAs .loader = true → s.envelope.timer = some due →
    s.record.auth.current? = none → s.monitor.view = s.record.view →
    let now := max s.now due
    exec .envelopeIntervalExpiry s = .next { s with
      now
      envelope := { s.envelope with timer := some (now + ms s.settings.p), cap := 0 }
      monitor := { s.monitor with openMark := false }
      relay := { s.relay with
        taken := false, lastRecord := if s.relay.taken = true then s.relay.lastRecord else {} }
      link := if s.relay.taken = true then s.link else s.link.withRecord now {} })

/-- R123: stage 1, the link term: floor(Vmax × Q / 8), with the values of Table 7-3 for Vmax = 150; with Q = 0 the cap
of a DRIVE hold is 0 whatever the other terms give, and with Q = 8 the term is Vmax. -/
def Obligations.TheLinkTerm : Prop :=
  (∀ vmax q, linkTerm vmax q = vmax * q / 8) ∧
  (List.range 9).map (linkTerm 150) = [0, 18, 37, 56, 75, 93, 112, 131, 150] ∧
  (∀ vmax, linkTerm vmax 0 = 0 ∧ linkTerm vmax 8 = vmax) ∧
  (∀ (s : State) (e : Evaluation), s.monitor.view.mode = some .drive → s.monitor.linkFigure = 0 → s.capOf e = 0)

/-! ### Aboard a loader: requests -/

/-- R44, R46: ASSIST_RAISE in a SUPERVISE hold in HELD sends ASSIST_CALL to the home pool and enters ASSIST with its
repeat timer at 2 s; ASSIST_CANCEL in ASSIST returns to HELD. In the other states they are answered NOT_SUPERVISED and
NOT_ASSIST, and the record is unchanged. -/
def Obligations.AnAssistIsRaisedAndCancelled : Prop :=
  ∀ (s : State) (tag : Byte) (location : Half), s.Awaits (some .loader) →
    (∀ h o, s.record.auth = .held h .supervise o → s.liu.classA.length < 8 → s.link.notices.length < 32 →
      ∃ q t, exec (.assistRaise tag location) s = .next t ∧
        Liu.Joined (TxFrame.make .assistCall (64 + s.settings.homePool) s.station s.record.epoch
          (bytesOfHalf location)) s.liu q ∧
        State.TurnedInto (.assist h location (s.now + sec 2)) { s with liu := q } t ∧
        s.link.StatePosted t.stateNotice t.link ∧ t.link.Answers 0x31 tag .ok []) ∧
    ((∀ h o, s.record.auth ≠ .held h .supervise o) →
      ∃ k, exec (.assistRaise tag location) s = .next { s with link := k } ∧
        s.link.Replies 0x31 tag .notSupervised [] [] 0 k) ∧
    (∀ h loc n, s.record.auth = .assist h loc n → s.link.notices.length < 32 →
      ∃ t, exec (.assistCancel tag) s = .next t ∧ s.TurnedInto (.held h .supervise none) t ∧
        s.link.StatePosted t.stateNotice t.link ∧ t.link.Answers 0x32 tag .ok []) ∧
    ((∀ h loc n, s.record.auth ≠ .assist h loc n) →
      ∃ k, exec (.assistCancel tag) s = .next { s with link := k } ∧
        s.link.Replies 0x32 tag .notAssist [] [] 0 k)

/-- R131, R150, R151, R163, R165, R179: LOCAL_STOP is answered OK in every state of the record, the latch set or
clear, and sets the latch with reason LOCAL_STOP; a setting that found it clear gives the zeroed record. A REPORT
replaces the last report, with a zone of 251 to 254 counted as 250 and 255 as none, and makes a lowering evaluation;
when that leaves the cap below the one the last record carries, outside the zeroing condition, the REPEAT record is
given; the response carries the values as kept and the cap in force. The freshness of the zeroed record is the model's
reading (log entry 21). -/
def Obligations.TheMachineControllerStopsAndReports : Prop :=
  (∀ (s : State) (tag : Byte), s.Awaits (some .loader) → s.link.notices.length < 32 →
    ∃ t, exec (.localStop tag) s = .next t ∧ s.LatchedBy .localStop t ∧
      s.link.Gave s.now (if s.discrete.latch = none then some {} else none) t.link ∧
      s.link.Replies 0x33 tag .ok [] (s.latchNotices .localStop) 0x0004 t.link) ∧
  (∀ (s : State) (tag : Byte) (speed location : Half) (zone : Byte), s.Awaits (some .loader) →
    let limit := if zone = 255 then none else some (min 250 zone.toNat)
    let report : Report := ⟨speed, location, limit, s.now⟩
    let cap := State.capOf .lowering { s with link := { s.link with lastReport := some report } }
    ∃ t, exec (.report tag speed location zone) s = .next t ∧
      t = { s with
        envelope := { s.envelope with cap }
        relay := { s.relay with lastRecord := (s.loweredRecord t).getD s.relay.lastRecord }
        link := t.link } ∧
      s.link.Gave s.now (s.loweredRecord t) t.link ∧
      t.link.lastReport = some report ∧
      t.link.Answers 0x30 tag .ok
        (bytesOfHalf speed ++ bytesOfHalf location ++ [byte (limit.getD 255), byte cap]) ∧
      t.link.noticeStream = s.link.noticeStream ∧ t.link.flags = s.link.flags ∧ t.link.attn = s.link.attn ∧
      t.link.mask = s.link.mask ∧ t.link.credit = s.link.credit ∧ t.link.mark = s.link.mark ∧
      t.link.restart = s.link.restart)

/-- R50, R69, R101, R117, R177, R191: the requests that only read: READ_RECORD, READ_BOARD, READ_IDENTITY, in
FAULT-HOLD too, and READ_COUNTERS are answered OK with their contents and change nothing; READ_HOLDS reports the
posture, the gesture and every entry, clears the alert latch of each, and changes nothing else. The byte layout of
READ_RECORD, READ_BOARD and READ_HOLDS is the model's reading of R172 (log entries 13 and 39). -/
def Obligations.ReadingChangesOnlyTheAlertLatches : Prop :=
  ∀ (s : State) (tag : Byte),
    (s.Awaits (some .loader) → ∃ k, exec (.readRecord tag) s = .next { s with link := k } ∧
      s.link.Replies 0x34 tag .ok s.recordContents [] 0 k) ∧
    (s.Awaits (some .chair) → ∃ k, exec (.readBoard tag) s = .next { s with link := k } ∧
      s.link.Replies 0x22 tag .ok s.boardContents [] 0 k) ∧
    (s.Awaits (some .chair) →
      ∃ k, exec (.readHolds tag) s = .next { s with
          holds := { s.holds with entries := s.holds.entries.map fun e => { e with alertLatch := false } }
          link := k } ∧
        s.link.Replies 0x21 tag .ok s.holdsContents [] 0 k) ∧
    (s.Awaits none ∨ s.AwaitsInFault → ∃ k, exec (.readIdentity tag) s = .next { s with link := k } ∧
      s.link.Replies 0x01 tag .ok
        [0x53, 0x24, 1, (match s.startup.role with | .chair => 1 | .loader => 2), byte s.startup.station] [] 0 k) ∧
    (s.Awaits none → ∃ k, exec (.readCounters tag) s = .next { s with link := k } ∧
      s.link.Replies 0x06 tag .ok
        (bytesOfNat16 s.liu.badFrames ++
          [byte s.link.linkErrors, byte s.link.noticeOverflow, byte s.link.notices.length, byte s.link.credit,
            (if s.link.mark.isSome then 1 else 0), byte (s.link.mark.getD 0),
            byte s.discrete.stopList.length]) [] 0 k)

/-! ### At a chair: frames -/

/-- R70, R71, R79 to R81, R142: a GRANT at a chair that holds its loader. One that names this chair puts an ACQUIRING
entry, or a HELD, OFFERING or SUSPENDED one of another epoch, into HELD with its mode and epoch, posts ACQUIRED and
clears the assist raised flag; a repeat of the entry's epoch changes nothing; in RELEASING it clears the flag, and one
of another epoch starts the release over. One that names another party, or none, removes the entry by the table of
R70, with HANDED_OVER, RELEASED or LOST and its reason; a GRANT to none leaves an ACQUIRING entry. About a loader that
is neither held nor boarded, one that names this chair is answered by one RELEASE and DISOWNED, and any other changes
nothing. That a repeat leaves the flag of a HELD, OFFERING or SUSPENDED entry is the model's reading (log entry 27). -/
def Obligations.AGrantEndsOrRenewsAnEntry : Prop :=
  (∀ (s : State) (f : RxFrame) (e : Entry), s.TakesAsChair f → f.kind = .grant → s.entry? f.loader = some e →
    s.link.notices.length < 31 → s.liu.classA.length < 8 →
    let n := (f.at 0).toNat
    let settled := (∃ o, e.phase = .held o) ∨ (∃ o, e.phase = .offering o) ∨ e.phase = .suspended
    let cleared := s.received.mapEntry f.loader fun x => { x with assist := false }
    (n = s.station →
      (∀ m, modeOf? (f.at 1) = some m →
        (∃ g out, e.phase = .acquiring g out) ∨ (settled ∧ f.epoch ≠ e.epoch) →
        ∃ t, exec .receptionComplete s = .next t ∧ cleared.HeldIn e m (some f.epoch) t ∧
          s.link.Posts [.acquired f.loader m f.epoch .grant] 0 t.link) ∧
      (settled → f.epoch = e.epoch → exec .receptionComplete s = .next s.received) ∧
      (∀ out, e.phase = .releasing out →
        (f.epoch = out.epoch → exec .receptionComplete s = .next cleared) ∧
        (∀ m, modeOf? (f.at 1) = some m → f.epoch ≠ out.epoch →
          ∃ t, exec .receptionComplete s = .next t ∧ cleared.ReleasedWith f.loader (some m) f.epoch t ∧
            t.link = s.link))) ∧
    (n ≠ s.station →
      let released := n = 0 ∧ ∃ out, e.phase = .releasing out
      let awaited := n = 0 ∧ ∃ g out, e.phase = .acquiring g out
      let reason : LostReason :=
        if (f.at 2).toNat ≠ s.station then .taken else if n = 0 then .lapsed else if e.assist then .taken else .seized
      (awaited → exec .receptionComplete s = .next s.received) ∧
      (e.phase.Completes n →
        ∃ t, exec .receptionComplete s = .next t ∧ s.received.EntryLeft f.loader [] (.handedOver f.loader n) t) ∧
      (released →
        ∃ t, exec .receptionComplete s = .next t ∧ s.received.EntryLeft f.loader [] (.released f.loader) t) ∧
      (¬ awaited → ¬ e.phase.Completes n → ¬ released →
        ∃ t, exec .receptionComplete s = .next t ∧ s.received.EntryLeft f.loader [] (.lost f.loader n reason) t))) ∧
  (∀ (s : State) (f : RxFrame), s.TakesAsChair f → f.kind = .grant → s.entry? f.loader = none →
    s.item? f.loader = none → s.link.notices.length < 32 → s.liu.classA.length < 8 →
    ((f.at 0).toNat = s.station →
      ∃ t, exec .receptionComplete s = .next t ∧ s.received.Disowned f.loader f.epoch t) ∧
    ((f.at 0).toNat ≠ s.station → exec .receptionComplete s = .next s.received))

/-- R72 to R76, R79, R81: a REFUSE or a DECLINE addressed to this chair, and an ASSIST_CALL, about a held loader. A
REFUSE of kind CLEAR posts REFUSED. One of the kind of an acquisition's frame is the lost grant when it is TAKEN by
this chair with another epoch than a CLAIM's or SEIZE's, and otherwise ends the acquisition by its origin; one of a
RELEASE ends or renews the release by its reason; one of an OFFER returns the entry to HELD with its last offer; any
other is discarded. A DECLINE from the target station of an OFFERING entry draws a WITHDRAW and DECLINED, and any
other is discarded. An ASSIST_CALL sets the assist raised flag and posts ASSIST when it was clear. The new holder of
some LOST notices, the order of the REFUSED notice, and the REFUSED that ends a release refused STALE_EPOCH with holder
0, a body that no unit sends, are the model's reading (log entries 22, 25 and 28). That a refused change of mode returns
its entry to DRIVE where another entry has taken DRIVE meanwhile is the model's choice (log entry 26). -/
def Obligations.AnAnswerReachesItsEntry : Prop :=
  ∀ (s : State) (f : RxFrame) (e : Entry), s.TakesAsChair f → s.entry? f.loader = some e →
    s.link.notices.length < 31 → s.liu.classA.length < 8 →
    let holder := (f.at 1).toNat
    let other := holder ≠ 0 ∧ holder ≠ s.station
    let refused : Notice := .refused f.loader (f.at 2) (f.at 0) (f.at 1)
    let left (n : Notice) : Prop :=
      ∃ t, exec .receptionComplete s = .next t ∧ s.received.EntryLeft f.loader [] n t
    (f.kind = .refuse → f.dest = s.station → f.at 2 = 0x32 →
      ∃ k, exec .receptionComplete s = .next { s.received with link := k } ∧ s.link.Posts [refused] 0 k) ∧
    (∀ g out, f.kind = .refuse → f.dest = s.station → e.phase = .acquiring g out →
      f.at 2 = out.kind.frameKind.code →
      let lostGrant :=
        f.at 0 = 1 ∧ holder = s.station ∧ (out.kind = .claim ∨ out.kind = .seize) ∧ f.epoch ≠ out.epoch
      (lostGrant →
        ∃ t, exec .receptionComplete s = .next t ∧ s.received.HeldIn e e.mode (some f.epoch) t ∧
          s.link.Posts [.acquired f.loader e.mode f.epoch .refuse] 0 t.link) ∧
      (¬ lostGrant → g = .new → left refused) ∧
      (∀ back, ¬ lostGrant → g = .modeChange back →
        ((f.at 0 = 1 ∨ f.at 0 = 5) ∧ other → left (.lost f.loader holder .taken)) ∧
        (¬ ((f.at 0 = 1 ∨ f.at 0 = 5) ∧ other) →
          ∃ t, exec .receptionComplete s = .next t ∧ s.received.HeldIn e back none t ∧
            s.link.Posts [refused] 0 t.link)) ∧
      (¬ lostGrant → g = .reclaim →
        left (if other then .lost f.loader holder .taken else .lost f.loader 0 .lapsed))) ∧
    (∀ out, f.kind = .refuse → f.dest = s.station → e.phase = .releasing out → f.at 2 = 0x27 →
      (f.at 0 = 6 → holder = 0 → left (.released f.loader)) ∧
      (f.at 0 = 6 → holder ≠ 0 → left (.lost f.loader (if other then holder else 0) .taken)) ∧
      (f.at 0 = 2 → holder = s.station →
        ∃ t, exec .receptionComplete s = .next t ∧ s.received.ReleasedWith f.loader none f.epoch t ∧
          t.link = s.link) ∧
      (f.at 0 = 2 → other → left (.lost f.loader holder .taken)) ∧
      (f.at 0 ≠ 6 → ¬ (f.at 0 = 2 ∧ (holder = s.station ∨ other)) → left refused)) ∧
    (∀ o, f.kind = .refuse → f.dest = s.station → e.phase = .offering o → f.at 2 = 0x21 →
      ∃ k, exec .receptionComplete s = .next
          { s.received.mapEntry f.loader (Entry.enter (.held (some ⟨o.target, o.mode⟩))) with link := k } ∧
        s.link.Posts [refused] 0 k) ∧
    (f.kind = .refuse → f.dest ≠ s.station ∨
        (f.at 2 ≠ 0x32 ∧ (∀ g out, e.phase = .acquiring g out → f.at 2 ≠ out.kind.frameKind.code) ∧
          (∀ out, e.phase = .releasing out → f.at 2 ≠ 0x27) ∧ (∀ o, e.phase = .offering o → f.at 2 ≠ 0x21)) →
      exec .receptionComplete s = .next s.received) ∧
    (∀ o, f.kind = .decline → f.dest = s.station → e.phase = .offering o → o.target = .station f.source →
      ∃ k q, exec .receptionComplete s = .next
          { s.received.mapEntry f.loader (Entry.enter (.held (some ⟨o.target, o.mode⟩))) with liu := q, link := k } ∧
        Liu.Joined (TxFrame.make .withdraw f.loader f.loader e.epoch []) s.received.liu q ∧
        s.link.Posts [.declined f.loader o.target (f.at 0)] 0 k) ∧
    (f.kind = .decline → f.dest ≠ s.station ∨ (∀ o, e.phase = .offering o → o.target ≠ .station f.source) →
      exec .receptionComplete s = .next s.received) ∧
    (f.kind = .assistCall →
      ∃ k, exec .receptionComplete s = .next
          { s.received.mapEntry f.loader (fun x => { x with assist := true }) with link := k } ∧
        s.link.Posts (if e.assist then [] else [.assist f.loader (f.halfAt 0)]) 0 k)

/-- R77, R79, R81, R97, R115: a STATUS about a held loader that shows ORPHAN with this chair as holder. It is heard,
as every STATUS is: the entry's freshness is renewed, the loader report and the assist raised flag stored, the alert
latched, and an absent loader reported PRESENT. An entry in HELD, OFFERING or a change of mode then takes its mode and
epoch: in SUPERVISE, or with DEADMAN held, SEAT closed and fresh neutral axes, it sends CLAIM with origin RECLAIM, and
otherwise it is SUSPENDED; SUSPENDED is posted either way and HOLD_LOST raised. A SUSPENDED entry takes the epoch; a
NEW or RECLAIM acquisition stays; a release of another epoch starts over. The order of the notices is the model's
reading (log entry 25). -/
def Obligations.AStatusOfAnOrphanSuspendsItsEntry : Prop :=
  ∀ (s : State) (f : RxFrame) (e : Entry) (m : Mode), s.TakesAsChair f → f.kind = .status →
    s.entry? f.loader = some e → f.at 0 = 4 → (f.at 2).toNat = s.station → modeOf? (f.at 1) = some m →
    s.link.notices.length < 31 → s.liu.classA.length < 8 →
    let u := s.statusHeard f
    let owned :=
      (∃ o, e.phase = .held o) ∨ (∃ o, e.phase = .offering o) ∨ ∃ b out, e.phase = .acquiring (.modeChange b) out
    let reclaims :=
      m = .supervise ∨
        (s.discrete.deadman.active = true ∧ s.discrete.seat.active = true ∧
          ∃ a, s.relay.axes = some a ∧ a.steer.natAbs ≤ 5 ∧ a.travel.natAbs ≤ 5 ∧ a.boom.natAbs ≤ 5 ∧
            a.bucket.natAbs ≤ 5 ∧ s.now - a.arrived ≤ ms (3 * s.settings.p))
    (owned → reclaims →
      ∃ t, exec .receptionComplete s = .next t ∧
        State.ClaimedAgain f.loader .reclaim m f.epoch
          (u.mapEntry f.loader fun x => { x with epoch := f.epoch }) t ∧
        s.link.Posts (e.presentNotices ++ [.suspended f.loader m true]) 0x0002 t.link) ∧
    (owned → ¬ reclaims →
      ∃ k, exec .receptionComplete s = .next
          { u.mapEntry f.loader (fun x =>
              { x with
                mode := m, continueOk := x.continueIn m, phase := .suspended, epoch := f.epoch, supervise := none })
            with link := k } ∧
        s.link.Posts (e.presentNotices ++ [.suspended f.loader m false]) 0x0002 k) ∧
    (e.phase = .suspended →
      ∃ k, exec .receptionComplete s = .next
          { u.mapEntry f.loader (fun x => { x with epoch := f.epoch }) with link := k } ∧
        s.link.Posts e.presentNotices 0 k) ∧
    ((∃ out, e.phase = .acquiring .new out ∨ e.phase = .acquiring .reclaim out ∨
        (e.phase = .releasing out ∧ f.epoch = out.epoch)) →
      ∃ k, exec .receptionComplete s = .next { u with link := k } ∧ s.link.Posts e.presentNotices 0 k) ∧
    (∀ out, e.phase = .releasing out → f.epoch ≠ out.epoch →
      ∃ t, exec .receptionComplete s = .next t ∧ u.ReleasedWith f.loader (some m) f.epoch t ∧
        s.link.Posts e.presentNotices 0 t.link)

/-- R77, R78, R80, R81, R115: any other STATUS about a held loader is heard and then compared with the entry by its
phase. In ACQUIRING one that names this chair with another epoch is the missed grant, and any other leaves the entry.
In RELEASING one that shows FREE ends the release with RELEASED, one that names another holder ends it with LOST, and
one that names this chair with another epoch starts it over. In HELD, OFFERING and SUSPENDED one that names this chair
with the entry's epoch changes nothing more, and any other removes the entry with the notice of R78's table. A STATUS
that names this chair about a loader that is not held is answered by one RELEASE and DISOWNED, and any other about
such a loader changes nothing. The new holder 0 of a LOST of cause EPOCH, the order of the notices, and the LOST of
cause TAKEN for a state other than FREE with holder 0, a body that no unit sends, are the model's reading (log entries
22, 25 and 28). -/
def Obligations.AStatusIsComparedWithItsEntry : Prop :=
  (∀ (s : State) (f : RxFrame) (e : Entry), s.TakesAsChair f → f.kind = .status → s.entry? f.loader = some e →
    let holder := (f.at 2).toNat
    ¬ (f.at 0 = 4 ∧ holder = s.station) → s.link.notices.length < 30 → s.liu.classA.length < 8 →
    let u := s.statusHeard f
    let kept : Prop :=
      ∃ k, exec .receptionComplete s = .next { u with link := k } ∧ s.link.Posts e.presentNotices 0 k
    let left (n : Notice) : Prop :=
      ∃ t, exec .receptionComplete s = .next t ∧ u.EntryLeft f.loader e.presentNotices n t
    (∀ g out, e.phase = .acquiring g out →
      (holder ≠ s.station ∨ f.epoch = out.epoch → kept) ∧
      (∀ m, holder = s.station → f.epoch ≠ out.epoch → modeOf? (f.at 1) = some m →
        ∃ t, exec .receptionComplete s = .next t ∧ u.HeldIn e m (some f.epoch) t ∧
          s.link.Posts (e.presentNotices ++ [.acquired f.loader m f.epoch .status]) 0 t.link)) ∧
    (∀ out, e.phase = .releasing out →
      (f.at 0 = 0 → left (.released f.loader)) ∧
      (f.at 0 ≠ 0 → holder ≠ s.station → left (.lost f.loader holder .taken)) ∧
      (f.at 0 ≠ 0 → holder = s.station → f.epoch = out.epoch → kept) ∧
      (∀ m, f.at 0 ≠ 0 → holder = s.station → f.epoch ≠ out.epoch → modeOf? (f.at 1) = some m →
        ∃ t, exec .receptionComplete s = .next t ∧ u.ReleasedWith f.loader (some m) f.epoch t ∧
          s.link.Posts e.presentNotices 0 t.link)) ∧
    ((∃ o, e.phase = .held o) ∨ (∃ o, e.phase = .offering o) ∨ e.phase = .suspended →
      (holder = s.station → f.epoch = e.epoch → kept) ∧
      (¬ (holder = s.station ∧ f.epoch = e.epoch) →
        (f.at 0 = 0 → left (.lost f.loader 0 (if f.epoch = 0 then .restarted else .lapsed))) ∧
        (f.at 0 ≠ 0 → holder = s.station → left (.lost f.loader 0 .epoch)) ∧
        (f.at 0 ≠ 0 → holder ≠ s.station → e.phase.Completes holder → left (.handedOver f.loader holder)) ∧
        (f.at 0 ≠ 0 → holder ≠ s.station → ¬ e.phase.Completes holder →
          left (.lost f.loader holder .taken))))) ∧
  (∀ (s : State) (f : RxFrame), s.TakesAsChair f → f.kind = .status → s.entry? f.loader = none →
    s.link.notices.length < 32 → s.liu.classA.length < 8 →
    ((f.at 2).toNat = s.station →
      ∃ t, exec .receptionComplete s = .next t ∧ s.received.Disowned f.loader f.epoch t) ∧
    ((f.at 2).toNat ≠ s.station → exec .receptionComplete s = .next s.received))

/-- R83 to R86, R88, R102: an OFFER addressed to this chair or to a pool of its set, or an ASSIST_CALL to a pool of
its set, heard in posture ACTIVE for a loader that is neither held nor boarded, a named offer with room in the Hold
Table, and the Board not full: it is boarded at the last place, and BOARDED is posted. On an empty Board it is
presented at once: PRESENTED is posted, CALL raised and the indicator lit. A frame that carries no item for this
chair, by its contents or its destination, changes nothing. The order of the notices is the model's reading (log entry
25). -/
def Obligations.ANewcomerIsBoardedAndPresented : Prop :=
  (∀ (s : State) (f : RxFrame) (i : Item), s.TakesAsChair f → s.heardItem? f = some i → s.holds.posture = .active →
    s.entry? f.loader = none → s.item? f.loader = none →
    (i.kind = .namedOffer f.source → s.holds.entries.length < 6) → s.link.notices.length < 31 →
    (s.board.items = [] →
      ∃ k, exec .receptionComplete s = .next { s.received with
          board := { s.board with items := [{ i with presented := true }] }
          discrete := { s.discrete with indicator := true }
          link := k } ∧
        s.link.Posts [.boarded i.loader i.kind i.mode, .presented i.loader i.kind i.mode] 0x0001 k) ∧
    (s.presented? ≠ none → s.board.items.length < 8 →
      ∃ k, exec .receptionComplete s = .next { s.received with
          board := { s.board with items := s.board.items ++ [i] }
          discrete := { s.discrete with indicator := true }
          link := k } ∧
        s.link.Posts [.boarded i.loader i.kind i.mode] 0 k)) ∧
  (∀ (s : State) (f : RxFrame), s.TakesAsChair f →
    f.kind = .offer ∨ (f.kind = .assistCall ∧ s.entry? f.loader = none) → s.heardItem? f = none →
    exec .receptionComplete s = .next s.received)

/-- R85 to R88, R89, R102: the other ends of a heard item. Table 5-2: in a posture other than ACTIVE a named offer is
declined VACANT and any other item is not boarded; an OFFER for a held loader changes nothing; a named offer that
finds 6 entries is declined TABLE_FULL, and an item of its loader leaves with ITEM_GONE, cause DECLINED. An item of a
boarded loader replaces the one there: it keeps the presented mark and takes the last place; a gesture of the Board
armed for a presented one ends with ITEM_CHANGED when the kind, the mode or the offering station has changed, and a
presented one whose kind has changed is announced by PRESENTED. On a full Board the item displaces the oldest
unpresented one of the highest level above its own, with ITEM_GONE, cause DISPLACED; where there is none, a named
offer is declined BOARD_FULL and any other item is dropped. The order of the notices is the model's reading (log entry
25). -/
def Obligations.AnItemIsDeclinedReplacedOrDisplaces : Prop :=
  ∀ (s : State) (f : RxFrame) (i : Item), s.TakesAsChair f → s.heardItem? f = some i →
    (f.kind = .assistCall → s.entry? f.loader = none) → s.link.notices.length < 29 → s.liu.classA.length < 8 →
    let named := i.kind = .namedOffer f.source
    let unboarded := exec .receptionComplete s = .next s.received
    let declined (reason : DeclineReason) (u : State) (after : List Notice) (raised : Half) : Prop :=
      ∃ q k, exec .receptionComplete s = .next { u with liu := q, link := k } ∧
        Liu.Joined (TxFrame.make .decline f.source f.loader f.epoch [reason.code]) s.received.liu q ∧
        s.link.Posts ([.autoDeclined f.loader f.source reason] ++ after) raised k
    (s.holds.posture ≠ .active → (named → declined .vacant s.received [] 0) ∧ (¬ named → unboarded)) ∧
    (s.holds.posture = .active → s.entry? f.loader ≠ none → unboarded) ∧
    (s.holds.posture = .active → s.entry? f.loader = none →
      (named → 6 ≤ s.holds.entries.length →
        declined .tableFull (s.received.withoutItem f.loader)
          ((s.item? f.loader).toList.map (fun old => .itemGone f.loader old.kind .declined old.presented) ++
            s.leavingNotices f.loader)
          (s.leavingFlags f.loader)) ∧
      (¬ named ∨ s.holds.entries.length < 6 →
        (∀ old, s.item? f.loader = some old →
          let changed := old.kind.level ≠ i.kind.level
          let ended := (s.board.gestureFor? f.loader).filter fun _ =>
            decide (old.presented = true ∧
              (changed ∨ old.mode ≠ i.mode ∨ old.kind.offering? ≠ i.kind.offering?))
          ∃ k, exec .receptionComplete s = .next { s.received with
              board :=
                { items := s.board.items.filter (·.loader ≠ f.loader) ++ [{ i with presented := old.presented }]
                  gesture := if ended.isSome then none else s.board.gesture }
              link := k } ∧
            s.link.Posts
              (ended.toList.map (fun g => .gestureFailed g.loader g.request .itemChanged) ++
                (if old.presented = true ∧ changed then [.presented i.loader i.kind i.mode] else []))
              (if old.presented = true ∧ changed then 0x0001 else 0) k) ∧
        (s.item? f.loader = none → 8 ≤ s.board.items.length → s.TablesSound →
          (∀ gone, s.board.displaced? i.kind.level = some gone →
            ∃ k, exec .receptionComplete s = .next { s.received with
                board := { s.board with items := s.board.items.filter (·.loader ≠ gone.loader) ++ [i] }
                discrete := { s.discrete with indicator := true }
                link := k } ∧
              s.link.Posts
                [.itemGone gone.loader gone.kind .displaced false, .boarded i.loader i.kind i.mode] 0 k) ∧
          (s.board.displaced? i.kind.level = none →
            (named → declined .boardFull s.received [] 0) ∧ (¬ named → unboarded)))))

/-! ### At a chair: posture, claims and modes -/

/-- R52: STAND_UP is answered OK in every posture. In VACANT or STANDING_DOWN it makes the posture ACTIVE and posts a
POSTURE notice (the notice queue having room, R182); in ACTIVE it changes nothing and posts no notice. The entries stay
as they stand. -/
def Obligations.StandUpMakesThePostureActive : Prop :=
  ∀ (s : State) (tag : Byte), s.Awaits (some .chair) →
    (s.holds.posture = .active →
      ∃ k, exec (.standUp tag) s = .next { s with link := k } ∧ s.link.Replies 0x20 tag .ok [] [] 0 k) ∧
    (s.holds.posture ≠ .active →
      ∃ k, exec (.standUp tag) s = .next { s with holds := { s.holds with posture := .active }, link := k } ∧
        k.Answers 0x20 tag .ok [] ∧
        (s.link.notices.length < 32 → s.link.Replies 0x20 tag .ok [] [.posture .active] 0 k))

/-- R53, R92: STAND_DOWN is answered OK in every posture. In ACTIVE the posture becomes VACANT with an empty table and
STANDING_DOWN otherwise, with a POSTURE notice. In every posture the Board is emptied and an armed gesture ends, with
ITEM_GONE when the Board armed it and STAND_DOWN when the Engine did. No frame is sent and no entry changed. The
notices are those that the queue has room for (R182). The order of the two notices is the model's reading (log entry
25). -/
def Obligations.StandDownEmptiesTheBoard : Prop :=
  ∀ (s : State) (tag : Byte), s.Awaits (some .chair) →
    let posture : Posture :=
      if s.holds.posture = .active then (if s.holds.entries = [] then .vacant else .standingDown) else s.holds.posture
    ∃ k, exec (.standDown tag) s = .next { s with
        holds := { s.holds with posture }
        board := { items := [], gesture := none }
        discrete := { s.discrete with indicator := false }
        link := k } ∧
      k.Answers 0x1F tag .ok [] ∧
      (s.link.notices.length < 31 →
        s.link.Replies 0x1F tag .ok []
          ((if s.holds.posture = .active then [.posture posture] else []) ++
            (match s.board.gesture with
             | none => []
             | some g =>
               [.gestureFailed g.loader g.request (if g.request = .acceptItem then .itemGone else .standDown)])) 0 k)

/-- R51, R55 to R57, R59, R60, R67, R92, R114: CLAIM and SEIZE of a loader that the table does not hold. The checks
stand in their order, and a request that fails one changes nothing. One that passes, a CLAIM in SUPERVISE or a SEIZE,
adds an entry at the tail in ACQUIRING with origin NEW, with the epoch of the loader's item on the Board, which leaves
without a frame and without ITEM_GONE, or with 0, and gives its frame to the LIU. A loader that the table holds is
answered ALREADY_HELD, but for the CLAIM of a SUSPENDED entry (R61). The reference numbers and the order of the
notices are the model's own (log entries 10 and 25). -/
def Obligations.AClaimOrASeizeIsCheckedAndCarriedOut : Prop :=
  ∀ (s : State) (tag loader mode : Byte), s.Awaits (some .chair) →
    let l := loader.toNat
    let value := ¬ (isStation loader = true ∧ l ≠ s.station ∧ (mode = 1 ∨ mode = 2))
    let suspended := ∃ e, s.entry? l = some e ∧ e.phase = .suspended
    let posture : List (Prop × ResultCode) :=
      [(s.holds.posture = .vacant, .vacant), (s.holds.posture = .standingDown, .standingDown),
        (s.discrete.stopchain.active = false, .chainOpen)]
    let room : Prop × ResultCode := (6 ≤ s.holds.entries.length, .tableFull)
    let driveBusy : Prop × ResultCode :=
      (mode = 1 ∧ ∃ e ∈ s.holds.entries, e.mode = .drive ∧ e.loader ≠ l, .driveBusy)
    let claimChecks := [(value, .badValue), (s.entry? l ≠ none, .alreadyHeld)] ++ posture ++
      [room, driveBusy, (mode = 1 ∧ s.board.gesture ≠ none, .busy)]
    let seizeChecks := [(value, .badValue), (s.settings.senior = false, .notSenior)] ++ posture ++
      [(s.entry? l ≠ none, .alreadyHeld), room, driveBusy]
    let carriedOut (request : Instr) (kind : Byte) (out : OutKind) : Prop :=
      s.liu.classA.length < 8 → s.link.notices.length < 31 → ∀ m, modeOf? mode = some m →
        ∃ t, exec request s = .next t ∧
          (s.withoutItem l).EntryAdded l out m (((s.item? l).map (·.epoch)).getD 0) t ∧
          s.link.Replies kind tag .ok [] (s.leavingNotices l) (s.leavingFlags l) t.link
    (¬ suspended → ∀ code, FirstFails claimChecks code →
      ∃ k, exec (.claim tag loader mode) s = .next { s with link := k } ∧ s.link.Replies 0x11 tag code [] [] 0 k) ∧
    (mode = 2 → (∀ check ∈ claimChecks, ¬ check.1) → carriedOut (.claim tag loader mode) 0x11 .claim) ∧
    (∀ code, FirstFails seizeChecks code →
      ∃ k, exec (.seize tag loader mode) s = .next { s with link := k } ∧ s.link.Replies 0x16 tag code [] [] 0 k) ∧
    ((∀ check ∈ seizeChecks, ¬ check.1) → carriedOut (.seize tag loader mode) 0x16 .seize)

/-- R60, R61, R63, R93, R95, R98, R100: the four requests that arm the gesture for a DRIVE hold: a CLAIM of a new
loader, the manual reclaim of a SUSPENDED entry, a SET_MODE of a HELD SUPERVISE entry, and an ACCEPT_ITEM of the
presented DRIVE item, each answered OK with the window of G seconds and nothing else changed. At the window's expiry,
whose moment is its own (log entry 2), the gesture ends with GESTURE_FAILED, cause TIMEOUT. -/
def Obligations.ADriveRequestArmsTheGesture : Prop :=
  (∀ (s : State) (tag loader : Byte), s.Awaits (some .chair) → isStation loader = true → loader.toNat ≠ s.station →
    s.board.gesture = none → (∀ e ∈ s.holds.entries, e.loader ≠ loader.toNat → e.mode ≠ .drive) →
    let armed (r : GestureRequest) (k : Link) : State :=
      { s with
        board := { s.board with gesture := some ⟨loader.toNat, r, s.now + sec s.settings.g⟩ }, link := k }
    (s.holds.posture = .active → s.discrete.stopchain.active = true → s.entry? loader.toNat = none →
      s.holds.entries.length < 6 →
      ∃ k, exec (.claim tag loader 1) s = .next (armed .claim k) ∧ s.link.Replies 0x11 tag .ok [] [] 0 k) ∧
    (∀ e, s.holds.posture = .active → s.discrete.stopchain.active = true → s.entry? loader.toNat = some e →
      e.phase = .suspended →
      ∃ k, exec (.claim tag loader 1) s = .next (armed .reclaim k) ∧ s.link.Replies 0x11 tag .ok [] [] 0 k) ∧
    (∀ e o, s.entry? loader.toNat = some e → e.phase = .held o → e.mode = .supervise →
      ∃ k, exec (.setMode tag loader 1) s = .next (armed .setMode k) ∧ s.link.Replies 0x12 tag .ok [] [] 0 k) ∧
    (∀ i, s.holds.posture = .active → s.discrete.stopchain.active = true → s.presented? = some i →
      i.loader = loader.toNat → i.mode = .drive → s.holds.entries.length < 6 →
      ∃ k, exec (.acceptItem tag loader) s = .next (armed .acceptItem k) ∧
        s.link.Replies 0x1C tag .ok [] [] 0 k)) ∧
  (∀ (s : State) (g : Gesture), s.activeAs .chair = true → s.board.gesture = some g → s.link.notices.length < 32 →
    ∃ k, exec .gestureWindowExpiry s = .next { s with
        now := max s.now g.deadline, board := { s.board with gesture := none }, link := k } ∧
      s.link.Posts [.gestureFailed g.loader g.request .timeout] 0 k)

/-- R62, R63, R92, R95, R97 to R99, R156: the filtered edge of CONFIRM to pressed, whose INPUT notice section 9.1
posts first, with the gesture armed, SEAT closed, DEADMAN held and fresh neutral axes: the gesture is no longer armed,
GESTURE_DONE is posted, and with the checks passing again the request is carried out. A CLAIM of a new loader adds an
entry in DRIVE with the epoch of its item on the Board, which leaves, or 0, and sends CLAIM DRIVE; a reclaim of a
SUSPENDED entry and a change of mode of a HELD one enter ACQUIRING and send CLAIM DRIVE with the entry's epoch; an
acceptance adds an entry with the item's epoch and sends the answer frame, and the item leaves. That the row leaves
the other filters and the sample timer as they were and this filter settled, the reference numbers and the order of
the notices are the model's own (log entries 10, 16 and 25). -/
def Obligations.AConfirmedGestureIsCarriedOut : Prop :=
  ∀ (s : State) (g : Gesture) (a : Axes), s.activeAs .chair = true → s.discrete.confirm.active = false →
    s.board.gesture = some g → s.discrete.seat.active = true → s.discrete.deadman.active = true →
    s.relay.axes = some a → s.now - a.arrived ≤ ms (3 * s.settings.p) →
    a.steer.natAbs ≤ 5 → a.travel.natAbs ≤ 5 → a.boom.natAbs ≤ 5 → a.bucket.natAbs ≤ 5 →
    (∀ e ∈ s.holds.entries, e.loader ≠ g.loader → e.mode ≠ .drive) →
    s.liu.classA.length < 8 → s.link.notices.length < 30 →
    let edge := exec (.filteredEdge .confirm true) s
    let done : State :=
      { s with
        discrete := { s.discrete with confirm := ⟨true, true, some ⟨true, 3⟩⟩ }
        board := { s.board with gesture := none } }
    let begun : List Notice := [.input .confirm true, .gestureDone g.loader g.request]
    (g.request = .claim → s.entry? g.loader = none → s.holds.posture = .active → s.discrete.stopchain.active = true →
      s.holds.entries.length < 6 →
      ∃ t, edge = .next t ∧
        (done.withoutItem g.loader).EntryAdded g.loader .claim .drive (((s.item? g.loader).map (·.epoch)).getD 0) t ∧
        s.link.Posts (begun ++ done.leavingNotices g.loader) (done.leavingFlags g.loader) t.link) ∧
    (∀ e, g.request = .reclaim → s.entry? g.loader = some e → e.phase = .suspended → s.holds.posture = .active →
      s.discrete.stopchain.active = true →
      ∃ t, edge = .next t ∧ done.ClaimedAgain g.loader .reclaim .drive e.epoch t ∧ s.link.Posts begun 0 t.link) ∧
    (∀ e o, g.request = .setMode → s.entry? g.loader = some e → e.phase = .held o →
      ∃ t, edge = .next t ∧ done.ClaimedAgain g.loader (.modeChange e.mode) .drive e.epoch t ∧
        s.link.Posts begun 0 t.link) ∧
    (∀ i, g.request = .acceptItem → s.presented? = some i → i.loader = g.loader → i.mode = .drive →
      (∀ e ∈ s.holds.entries, e.mode ≠ .drive) →
      s.holds.posture = .active → s.discrete.stopchain.active = true → s.holds.entries.length < 6 →
      ∃ t, edge = .next t ∧
        (done.withoutItem g.loader).EntryAdded g.loader
          (match i.kind with | .assist .. => .claim | .namedOffer _ | .poolOffer .. => .accept) .drive i.epoch t ∧
        s.link.Posts (begun ++ done.leavingNotices g.loader) (done.leavingFlags g.loader) t.link)

/-- R62, R95, R97 to R100, R156: the other edges of CONFIRM to pressed, whose INPUT notice section 9.1 posts first.
The first condition of R99 that fails ends the gesture with GESTURE_FAILED and its cause. An edge that meets all four
completes it, with GESTURE_DONE; where a check of the request then fails, a claim, a reclaim or a mode change is
abandoned with CLAIM_ABANDONED, and an acceptance ends with GESTURE_FAILED, its item presented still. Nothing else
changes. With no gesture armed the edge posts INPUT alone. The order in which the causes of CLAIM_ABANDONED are tried,
GESTURE_DONE before the GESTURE_FAILED of an acceptance, and what the row does to the filters are the model's reading
(log entries 16, 23 and 24). -/
def Obligations.AGestureFailsOrIsAbandoned : Prop :=
  ∀ s : State, s.activeAs .chair = true → s.discrete.confirm.active = false → s.link.notices.length < 30 →
    let ends (u : State) (notices : List Notice) : Prop :=
      ∃ k, exec (.filteredEdge .confirm true) s = .next { u with
          discrete := { s.discrete with confirm := ⟨true, true, some ⟨true, 3⟩⟩ }, link := k } ∧
        s.link.Posts (.input .confirm true :: notices) 0 k
    let done : State := { s with board := { s.board with gesture := none } }
    let stale := ∀ a, s.relay.axes = some a → ms (3 * s.settings.p) < s.now - a.arrived
    let neutral := ∃ a, s.relay.axes = some a ∧
      a.steer.natAbs ≤ 5 ∧ a.travel.natAbs ≤ 5 ∧ a.boom.natAbs ≤ 5 ∧ a.bucket.natAbs ≤ 5
    let conditions : List (Prop × GestureCause) :=
      [(s.discrete.seat.active = false, .seatOpen), (s.discrete.deadman.active = false, .deadmanReleased),
        (stale, .axesStale), (¬ neutral, .axesNotNeutral)]
    (s.board.gesture = none → ends s []) ∧
    (∀ g, s.board.gesture = some g →
      (∀ cause, FirstFails conditions cause → ends done [.gestureFailed g.loader g.request cause]) ∧
      ((∀ c ∈ conditions, ¬ c.1) →
        let l := g.loader
        let posture : List (Prop × ResultCode) :=
          [(s.holds.posture = .vacant, .vacant), (s.holds.posture = .standingDown, .standingDown),
            (s.discrete.stopchain.active = false, .chainOpen)]
        let driveBusy := ∃ e ∈ s.holds.entries, e.mode = .drive ∧ e.loader ≠ l
        let abandoned (checks : List (Prop × ResultCode)) : Prop :=
          ∀ code, FirstFails checks code → ends done [.gestureDone l g.request, .claimAbandoned l .drive code]
        (g.request = .claim →
          abandoned ([(s.entry? l ≠ none, .alreadyHeld)] ++ posture ++
            [(6 ≤ s.holds.entries.length, .tableFull), (driveBusy, .driveBusy)])) ∧
        (g.request = .reclaim →
          abandoned ([(s.entry? l = none, .notHeld), (∀ e, s.entry? l = some e → e.phase ≠ .suspended, .wrongPhase)] ++
            posture ++ [(driveBusy, .driveBusy)])) ∧
        (g.request = .setMode →
          abandoned
            [(s.entry? l = none, .notHeld), (∀ e, s.entry? l = some e → ∀ o, e.phase ≠ .held o, .wrongPhase),
              (driveBusy, .driveBusy)]) ∧
        (∀ i cause, g.request = .acceptItem → s.holds.posture = .active → s.presented? = some i → i.loader = l →
          FirstFails
            [(s.discrete.stopchain.active = false, .chainOpen), (6 ≤ s.holds.entries.length, .tableFull),
              (driveBusy, .driveBusy)] cause →
          ends done [.gestureDone l .acceptItem, .gestureFailed l .acceptItem cause])))

/-- R56, R57, R59, R61, R63: SET_MODE, and the CLAIM of a SUSPENDED entry, the manual reclaim. The checks of each
stand in their order, and a request that fails one changes nothing; a SET_MODE to the entry's own mode is answered OK
and changes nothing. A SET_MODE to SUPERVISE of a HELD DRIVE entry keeps DRIVE as the return mode, takes SUPERVISE
with continue yes, enters ACQUIRING with origin MODE_CHANGE, and gives CLAIM SUPERVISE with the entry's epoch; a
reclaim in SUPERVISE does so with origin RECLAIM. The reference number is the model's own (log entry 10). -/
def Obligations.SetModeAndTheManualReclaimClaimAgain : Prop :=
  ∀ (s : State) (tag loader mode : Byte), s.Awaits (some .chair) →
    let l := loader.toNat
    let value := ¬ (isStation loader = true ∧ l ≠ s.station ∧ (mode = 1 ∨ mode = 2))
    let driveBusy := mode = 1 ∧ ∃ e ∈ s.holds.entries, e.mode = .drive ∧ e.loader ≠ l
    let own := ∀ e, s.entry? l = some e → mode = modeCode e.mode
    let changes : List (Prop × ResultCode) :=
      [(value, .badValue), (s.entry? l = none, .notHeld),
        (∀ e, s.entry? l = some e → ∀ o, e.phase ≠ .held o, .wrongPhase),
        (¬ own ∧ driveBusy, .driveBusy), (¬ own ∧ mode = 1 ∧ s.board.gesture ≠ none, .busy)]
    let reclaims : List (Prop × ResultCode) :=
      [(value, .badValue), (s.holds.posture = .vacant, .vacant), (s.holds.posture = .standingDown, .standingDown),
        (s.discrete.stopchain.active = false, .chainOpen), (driveBusy, .driveBusy),
        (mode = 1 ∧ s.board.gesture ≠ none, .busy)]
    let request := exec (.setMode tag loader mode) s
    let claim := exec (.claim tag loader mode) s
    (∀ code, FirstFails changes code →
      ∃ k, request = .next { s with link := k } ∧ s.link.Replies 0x12 tag code [] [] 0 k) ∧
    ((∀ c ∈ changes, ¬ c.1) → own →
      ∃ k, request = .next { s with link := k } ∧ s.link.Replies 0x12 tag .ok [] [] 0 k) ∧
    (∀ e, (∀ c ∈ changes, ¬ c.1) → s.entry? l = some e → e.mode = .drive → mode = 2 → s.liu.classA.length < 8 →
      ∃ t, request = .next t ∧ s.ClaimedAgain l (.modeChange .drive) .supervise e.epoch t ∧
        s.link.Replies 0x12 tag .ok [] [] 0 t.link) ∧
    (∀ e, s.entry? l = some e → e.phase = .suspended →
      (∀ code, FirstFails reclaims code →
        ∃ k, claim = .next { s with link := k } ∧ s.link.Replies 0x11 tag code [] [] 0 k) ∧
      ((∀ c ∈ reclaims, ¬ c.1) → mode = 2 → s.liu.classA.length < 8 →
        ∃ t, claim = .next t ∧ s.ClaimedAgain l .reclaim .supervise e.epoch t ∧
          s.link.Replies 0x11 tag .ok [] [] 0 t.link))

/-! ### At a chair: offers, releases, pauses, readings -/

/-- R57, R59, R64 to R66: OFFER, WITHDRAW and RELEASE on an entry. The checks of each stand in their order, and a
request that fails one changes nothing. An OFFER of a HELD entry gives the LIU an OFFER to the target with the entry's
epoch and the expiry clamped to 1 to 300, and the entry enters OFFERING; its deadline is not running until the
completion of the sending. A WITHDRAW of an OFFERING entry gives a WITHDRAW with the entry's epoch and returns the
entry to HELD with the offer as its last offer. A RELEASE of a HELD, OFFERING or SUSPENDED entry enters RELEASING with
RELEASE as its outstanding frame. The reference number is the model's own (log entry 10). -/
def Obligations.OffersWithdrawalsAndReleasesFollowThePhase : Prop :=
  ∀ (s : State) (tag loader : Byte), s.Awaits (some .chair) →
    let l := loader.toNat
    let badLoader := ¬ (isStation loader = true ∧ l ≠ s.station)
    let checks (value : Prop) (fits : Phase → Prop) : List (Prop × ResultCode) :=
      [(value, .badValue), (s.entry? l = none, .notHeld), (∀ e, s.entry? l = some e → ¬ fits e.phase, .wrongPhase)]
    let isHeld (p : Phase) := ∃ o, p = .held o
    let isOffering (p : Phase) := ∃ o, p = .offering o
    let refused (request : Instr) (kind : Byte) (code : ResultCode) : Prop :=
      ∃ k, exec request s = .next { s with link := k } ∧ s.link.Replies kind tag code [] [] 0 k
    (∀ (target mode : Byte) (expiry : Half),
      let goodTarget := (isStation target = true ∧ target.toNat ≠ s.station ∧ target ≠ loader) ∨
        (65 ≤ target.toNat ∧ target.toNat ≤ 72)
      let offerChecks := checks (badLoader ∨ ¬ goodTarget ∨ ¬ (mode = 1 ∨ mode = 2)) isHeld
      let x := max 1 (min expiry.toNat 300)
      (∀ code, FirstFails offerChecks code → refused (.offer tag loader target mode expiry) 0x13 code) ∧
      (∀ e m, (∀ c ∈ offerChecks, ¬ c.1) → s.entry? l = some e → modeOf? mode = some m → s.liu.classA.length < 8 →
        ∃ k q, exec (.offer tag loader target mode expiry) s = .next { s with
            holds := { s.holds with
              entries := s.holds.entries.map fun y =>
                if y.loader = l then
                  Entry.enter (.offering ⟨Party.ofCode target.toNat, m, min (ms (100 * x)) (sec s.settings.tx), none,
                    s.holds.nextRef⟩) y
                else y
              nextRef := s.holds.nextRef + 1 }
            liu := q, link := k } ∧
          Liu.Joined (TxFrame.make .offer target.toNat l e.epoch (mode :: bytesOfNat16 x) (.offer s.holds.nextRef))
            s.liu q ∧
          s.link.Replies 0x13 tag .ok [] [] 0 k)) ∧
    (∀ code, FirstFails (checks badLoader isOffering) code → refused (.withdraw tag loader) 0x14 code) ∧
    (∀ e o, ¬ badLoader → s.entry? l = some e → e.phase = .offering o → s.liu.classA.length < 8 →
      ∃ k q, exec (.withdraw tag loader) s = .next { s with
          holds := { s.holds with entries := s.holds.entries.map fun y =>
            if y.loader = l then Entry.enter (.held (some ⟨o.target, o.mode⟩)) y else y }
          liu := q, link := k } ∧
        Liu.Joined (TxFrame.make .withdraw l l e.epoch []) s.liu q ∧ s.link.Replies 0x14 tag .ok [] [] 0 k) ∧
    (let releaseChecks := checks badLoader fun p => isHeld p ∨ isOffering p ∨ p = .suspended
     (∀ code, FirstFails releaseChecks code → refused (.release tag loader) 0x15 code) ∧
     (∀ e, (∀ c ∈ releaseChecks, ¬ c.1) → s.entry? l = some e → s.liu.classA.length < 8 →
       ∃ t, exec (.release tag loader) s = .next t ∧ s.ReleasedWith l none e.epoch t ∧
         s.link.Replies 0x15 tag .ok [] [] 0 t.link))

/-- R68, R142: PAUSE sets the continue flag of a SUPERVISE entry to no and RESUME to yes, in every phase; in HELD and
OFFERING a SUPERVISE frame with the flag goes to the LIU at once and the supervise deadline starts afresh for 4 × P, and
in the other phases nothing is sent; an entry in DRIVE answers NOT_SUPERVISE. -/
def Obligations.PauseAndResumeSetTheContinueFlag : Prop :=
  ∀ (s : State) (tag loader : Byte) (e : Entry) (yes : Bool), s.Awaits (some .chair) → isStation loader = true →
    loader.toNat ≠ s.station → s.entry? loader.toNat = some e →
    let request : Instr := if yes then .resume tag loader else .pause tag loader
    let kind : Byte := if yes then 0x18 else 0x17
    (e.mode = .supervise → (∃ o, e.phase = .held o) ∨ (∃ o, e.phase = .offering o) →
      ∃ k q, exec request s = .next { s with
          holds := { s.holds with entries := s.holds.entries.map fun y =>
            if y.loader = loader.toNat then
              { y with continueOk := yes, supervise := some (s.now + ms (4 * s.settings.p)) }
            else y }
          liu := q, link := k } ∧
        Liu.Joined (TxFrame.make .supervise loader.toNat loader.toNat e.epoch [if yes then 1 else 0]) s.liu q ∧
        s.link.Replies kind tag .ok [] [] 0 k) ∧
    (e.mode = .supervise → (∃ g out, e.phase = .acquiring g out) ∨ (∃ out, e.phase = .releasing out) ∨
        e.phase = .suspended →
      ∃ k, exec request s = .next { s with
          holds := { s.holds with entries := s.holds.entries.map fun y =>
            if y.loader = loader.toNat then { y with continueOk := yes } else y }
          link := k } ∧
        s.link.Replies kind tag .ok [] [] 0 k) ∧
    (e.mode = .drive →
      ∃ k, exec request s = .next { s with link := k } ∧ s.link.Replies kind tag .notSupervise [] [] 0 k)

/-! ### At a chair: timers of entries and items -/

/-- R54, R57, R58, R76, R81, R116: the timers of a Hold Table entry. The answer deadline, in ACQUIRING and RELEASING,
sends another copy of the outstanding frame, up to four, and then removes the entry with NO_ANSWER, in STANDING_DOWN
with POSTURE when the table is left empty; the offer deadline returns OFFERING to HELD with OFFER_EXPIRED; the absence
deadline sets the absent flag once and posts ABSENT with the status age. Each moment is the deadline's own, the copy
carries the reference number of the frame it repeats, the order of the two notices is the model's reading, and the age
is in whole milliseconds with the fraction dropped (log entries 2, 10, 25 and 30). -/
def Obligations.TheTimersOfAnEntryExpire : Prop :=
  ∀ (s : State) (loader : Byte) (e : Entry), s.activeAs .chair = true → s.entry? loader.toNat = some e →
    (∀ out, e.phase = .releasing out ∨ (∃ g, e.phase = .acquiring g out) →
      let now := max s.now out.deadline
      let again : Outstanding :=
        { out with attempts := out.attempts + 1, deadline := now + ms (4 * s.settings.p) }
      (out.attempts < 4 → s.liu.classA.length < 8 →
        ∃ q, exec (.answerDeadlineExpiry loader) s = .next { s with
            now
            holds := { s.holds with entries := s.holds.entries.map fun y =>
              if y.loader = loader.toNat then
                (match y.phase with
                 | .acquiring g _ => { y with phase := .acquiring g again }
                 | .releasing _ => { y with phase := .releasing again }
                 | _ => y)
              else y }
            liu := q } ∧
          Liu.Joined (TxFrame.make out.kind.frameKind loader.toNat loader.toNat out.epoch
            (out.mode.map modeCode).toList (.outstanding out.ref)) s.liu q) ∧
      (4 ≤ out.attempts → s.link.notices.length < 31 →
        ∃ t, exec (.answerDeadlineExpiry loader) s = .next t ∧
          State.EntryLeft loader.toNat [] (.noAnswer loader.toNat out.kind) { s with now } t)) ∧
    (∀ o due, e.phase = .offering o → o.deadline = some due → s.link.notices.length < 32 →
      ∃ k, exec (.offerDeadlineExpiry loader) s = .next { s with
          now := max s.now due
          holds := { s.holds with entries := s.holds.entries.map fun y =>
            if y.loader = loader.toNat then Entry.enter (.held (some ⟨o.target, o.mode⟩)) y else y }
          link := k } ∧
        s.link.Posts [.offerExpired loader.toNat o.target] 0 k) ∧
    (∀ due, e.absence = some due → s.link.notices.length < 32 →
      ∃ k, exec (.absenceDeadlineExpiry loader) s = .next { s with
          now := max s.now due
          holds := { s.holds with entries := s.holds.entries.map fun y =>
            if y.loader = loader.toNat then { y with absent := true, absence := none } else y }
          link := k } ∧
        s.link.Posts
          [.absent loader.toNat ((max s.now due - e.lastStatusAt.getD e.addedAt) / 1000)] 0 k)

/-- R84, R89 to R91, R94, R96: the ways in which an item leaves the Board: its deadline, with ITEM_GONE and cause
EXPIRED or SILENT; a GRANT about its loader, with TAKEN when it was presented and ITEM_GONE otherwise; a WITHDRAW from
the offering station of an offer, and from no other; DECLINE_ITEM of a presented named offer, with a DECLINE OPERATOR
to the offering station; DISMISS_ITEM of a presented pool offer or assist call, with no frame; and ACCEPT_ITEM of a
presented SUPERVISE item, which adds an entry with the item's epoch and sends the answer frame. At each, the first
item in the order of presentation becomes presented when none is, a gesture armed for the item ends with ITEM_GONE,
and the indicator is out when the Board is empty. DECLINE_ITEM and DISMISS_ITEM of the other kinds are answered
WRONG_KIND. The checks of R93 and R96 stand in their order, and a request that fails one is answered with its code and
changes nothing. The reference number, the order of the notices and the moment of the deadline are the model's own (log
entries 2, 10 and 25). -/
def Obligations.AnItemLeavesTheBoard : Prop :=
  (∀ (s : State) (loader : Byte) (i : Item), s.activeAs .chair = true → s.item? loader.toNat = some i →
    s.link.notices.length < 30 →
    ∃ k, exec (.itemDeadlineExpiry loader) s = .next { s.withoutItem loader.toNat with
        now := max s.now i.deadline, link := k } ∧
      s.link.Posts
        ([.itemGone i.loader i.kind
          (match i.kind with | .assist .. => .silent | .namedOffer _ | .poolOffer .. => .expired) i.presented] ++
          s.leavingNotices loader.toNat)
        (s.leavingFlags loader.toNat) k) ∧
  (∀ (s : State) (f : RxFrame) (i : Item), s.TakesAsChair f → s.item? f.loader = some i →
    s.link.notices.length < 30 →
    (f.kind = .grant → s.entry? f.loader = none →
      ∃ k, exec .receptionComplete s = .next { s.received.withoutItem f.loader with link := k } ∧
        s.link.Posts
          ([if i.presented then .taken i.loader (f.at 0).toNat else .itemGone i.loader i.kind .granted false] ++
            s.leavingNotices f.loader)
          (s.leavingFlags f.loader) k) ∧
    (f.kind = .withdraw → i.kind.offering? = some f.source →
      ∃ k, exec .receptionComplete s = .next { s.received.withoutItem f.loader with link := k } ∧
        s.link.Posts ([.itemGone i.loader i.kind .withdrawn i.presented] ++ s.leavingNotices f.loader)
          (s.leavingFlags f.loader) k) ∧
    (f.kind = .withdraw → i.kind.offering? ≠ some f.source → exec .receptionComplete s = .next s.received)) ∧
  (∀ (s : State) (tag loader : Byte) (i : Item), s.Awaits (some .chair) → isStation loader = true →
    s.presented? = some i → i.loader = loader.toNat → s.link.notices.length < 30 → s.liu.classA.length < 8 →
    let left := s.withoutItem i.loader
    let notices := s.leavingNotices i.loader
    let raised := s.leavingFlags i.loader
    (∀ n, i.kind = .namedOffer n →
      (∃ k q, exec (.declineItem tag loader) s = .next { left with liu := q, link := k } ∧
        Liu.Joined (TxFrame.make .decline n i.loader i.epoch [1]) s.liu q ∧
        s.link.Replies 0x1D tag .ok [] notices raised k) ∧
      (∃ k, exec (.dismissItem tag loader) s = .next { s with link := k } ∧
        s.link.Replies 0x1E tag .wrongKind [] [] 0 k)) ∧
    ((∀ n, i.kind ≠ .namedOffer n) →
      (∃ k, exec (.dismissItem tag loader) s = .next { left with link := k } ∧
        s.link.Replies 0x1E tag .ok [] notices raised k) ∧
      (∃ k, exec (.declineItem tag loader) s = .next { s with link := k } ∧
        s.link.Replies 0x1D tag .wrongKind [] [] 0 k)) ∧
    (i.mode = .supervise → s.holds.posture = .active → s.discrete.stopchain.active = true →
      s.discrete.seat.active = true → s.holds.entries.length < 6 →
      ∃ t, exec (.acceptItem tag loader) s = .next t ∧
        left.EntryAdded i.loader (match i.kind with | .assist .. => .claim | .namedOffer _ | .poolOffer .. => .accept)
          .supervise i.epoch t ∧
        s.link.Replies 0x1C tag .ok [] notices raised t.link)) ∧
  (∀ (s : State) (tag loader : Byte), s.Awaits (some .chair) →
    let refused (request : Instr) (kind : Byte) (code : ResultCode) : Prop :=
      ∃ k, exec request s = .next { s with link := k } ∧ s.link.Replies kind tag code [] [] 0 k
    let value : Prop × ResultCode := (isStation loader = false, .badValue)
    let named : List (Prop × ResultCode) :=
      [(s.presented? = none, .noItem), (∀ i, s.presented? = some i → i.loader ≠ loader.toNat, .notPresented)]
    let shows (m : Mode) : Prop := ∃ i, s.presented? = some i ∧ i.mode = m
    (∀ code, FirstFails (value :: named) code →
      refused (.declineItem tag loader) 0x1D code ∧ refused (.dismissItem tag loader) 0x1E code) ∧
    (∀ code, s.TablesSound →
      FirstFails
        ([value, (s.holds.posture = .vacant, .vacant), (s.holds.posture = .standingDown, .standingDown),
            (s.discrete.stopchain.active = false, .chainOpen)] ++ named ++
          [(6 ≤ s.holds.entries.length, .tableFull),
            (shows .drive ∧ ∃ e ∈ s.holds.entries, e.mode = .drive, .driveBusy),
            (shows .drive ∧ s.board.gesture ≠ none, .busy),
            (shows .supervise ∧ s.discrete.seat.active = false, .seatOpen)]) code →
      refused (.acceptItem tag loader) 0x1C code))

/-! ### At a chair: the Command Relay -/

/-- R138: AXES is answered OK in every posture: the latest axes are replaced whole by the four values, steer, boom and
bucket clamped to −100 to +100 and travel to −250 to +250, with the moment of the arrival; no frame is sent. In loader
role AXES is answered ROLE. -/
def Obligations.AxesReplaceTheLatestAxes : Prop :=
  (∀ (s : State) (tag steer : Byte) (travel : Half) (boom bucket : Byte), s.Awaits (some .chair) →
    let latest : Axes :=
      ⟨max (-100) (min steer.toInt 100), max (-250) (min travel.toInt 250), max (-100) (min boom.toInt 100),
        max (-100) (min bucket.toInt 100), s.now⟩
    ∃ k, exec (.axes tag steer travel boom bucket) s = .next
        { s with relay := { s.relay with axes := some latest }, link := k } ∧
      s.link.Replies 0x10 tag .ok [] [] 0 k) ∧
  (∀ (s : State) (tag steer : Byte) (travel : Half) (boom bucket : Byte), s.Awaits (some .loader) →
    ∃ k, exec (.axes tag steer travel boom bucket) s = .next { s with link := k } ∧
      s.link.Replies 0x10 tag .role [] [] 0 k)

/-- R139 to R142: at each drive interval expiry the timer starts again for P. The DRIVE entry in HELD or OFFERING gets
a DRIVE frame with its epoch: the latest axes, the travel 0 with the seat open, everything 0 and the console stale
flag set when the axes are stale, and the flags of DEADMAN and SEAT; in RELEASING it gets a neutral frame; in
ACQUIRING or SUSPENDED, or with no DRIVE entry, nothing is sent. At a supervise deadline a SUPERVISE frame is given
and the deadline starts again for 4 × P. Each moment is its own, and of two DRIVE entries the first in table order is
taken (log entries 2 and 26). -/
def Obligations.TheRelayDrivesAndSupervises : Prop :=
  (∀ (s : State) (due : Nat), s.activeAs .chair = true → s.relay.driveTimer = some due →
    let now := max s.now due
    let next (q : Liu) : State :=
      { s with now, relay := { s.relay with driveTimer := some (now + ms s.settings.p) }, liu := q }
    let seat : Byte := if s.discrete.seat.active then 4 else 0
    let deadman : Byte := if s.discrete.deadman.active then 1 else 0
    (∀ e a, s.driveEntry? = some e → (∃ o, e.phase = .held o) ∨ (∃ o, e.phase = .offering o) →
      s.relay.axes = some a →
      now - a.arrived ≤ ms (3 * s.settings.p) →
      ∃ q, exec .driveIntervalExpiry s = .next (next q) ∧
        Liu.Joined (TxFrame.make .drive e.loader e.loader e.epoch
          ([byteOfInt a.steer] ++ bytesOfInt16 (if s.discrete.seat.active then a.travel else 0) ++
            [byteOfInt a.boom, byteOfInt a.bucket, deadman ||| seat])) s.liu q) ∧
    (∀ e, s.driveEntry? = some e → (∃ o, e.phase = .held o) ∨ (∃ o, e.phase = .offering o) →
      (∀ a, s.relay.axes = some a → ms (3 * s.settings.p) < now - a.arrived) →
      ∃ q, exec .driveIntervalExpiry s = .next (next q) ∧
        Liu.Joined (TxFrame.make .drive e.loader e.loader e.epoch [0, 0, 0, 0, 0, deadman ||| 2 ||| seat])
          s.liu q) ∧
    (∀ e out, s.driveEntry? = some e → e.phase = .releasing out →
      ∃ q, exec .driveIntervalExpiry s = .next (next q) ∧
        Liu.Joined (TxFrame.make .drive e.loader e.loader e.epoch [0, 0, 0, 0, 0, seat]) s.liu q) ∧
    (s.driveEntry? = none ∨
        (∃ e, s.driveEntry? = some e ∧ ((∃ g out, e.phase = .acquiring g out) ∨ e.phase = .suspended)) →
      exec .driveIntervalExpiry s = .next (next s.liu))) ∧
  (∀ (s : State) (loader : Byte) (e : Entry) (due : Nat), s.activeAs .chair = true →
    s.entry? loader.toNat = some e → e.mode = .supervise →
    (∃ o, e.phase = .held o) ∨ (∃ o, e.phase = .offering o) → e.supervise = some due →
    ∃ q, exec (.superviseDeadlineExpiry loader) s = .next { s with
        now := max s.now due
        holds := { s.holds with entries := s.holds.entries.map fun y =>
          if y.loader = loader.toNat then { y with supervise := some (max s.now due + ms (4 * s.settings.p)) }
          else y }
        liu := q } ∧
      Liu.Joined (TxFrame.make .supervise loader.toNat loader.toNat e.epoch [if e.continueOk then 1 else 0])
        s.liu q)

/-! ### The Discrete Line Unit -/

/-- R153 to R158, R162, R163, R166 to R169: the filtered edges. Aboard a loader a change of STOPCHAIN to open, or
its first settling when it settles open, posts INPUT, raises CHAIN_OPEN and sets the latch with LOCAL_CHAIN; a
change to closed re-judges MOTION_ENABLE and clears nothing. At a chair such an edge of STOPCHAIN to open raises
CHAIN_OPEN, takes the CHAIN entries off the stop list and joins three for each Hold Table entry; a change of SEAT to
open joins a SEAT stop for the DRIVE entry in HELD or OFFERING, and nothing with no DRIVE entry or one in another
phase. While a STOP is outstanding the entries wait; otherwise, with room in class S, the first of the list is given
to the LIU as the first entry joins; those that find the list full are dropped with TX_OVERFLOW. A change of
DEADMAN, of STOPCHAIN or SEAT to closed, or of CONFIRM to released posts its INPUT notice and does nothing else. An
input of report type edge posts no notice at a change to inactive. That the row leaves the filter settled with its
run full and the other filters as they were, and the choice of the first of two DRIVE entries, are the model's (log
entries 16 and 26). -/
def Obligations.AFilteredEdgeIsDelivered : Prop :=
  (∀ s : State, s.activeAs .loader = true →
    s.discrete.stopchain.active = true ∨ s.discrete.stopchain.settled = false → s.link.notices.length < 31 →
    ∃ t, exec (.filteredEdge .stopchain false) s = .next t ∧
      State.LatchedBy .localChain
        { s with discrete := { s.discrete with stopchain := ⟨false, true, some ⟨false, 3⟩⟩ } } t ∧
      s.link.Posts ((if s.settings.stopchain.edge then [] else [.input .stopchain false]) ++
        s.latchNotices .localChain) 0x000C t.link) ∧
  (∀ s : State, s.activeAs .loader = true → s.discrete.stopchain.active = false → s.link.notices.length < 32 →
    ∃ k, exec (.filteredEdge .stopchain true) s = .next { s with
        discrete := { s.discrete with
          stopchain := ⟨true, true, some ⟨true, 3⟩⟩
          motionEnable := s.record.auth.current?.isSome && s.discrete.latch.isNone }
        link := k } ∧
      s.link.Posts [.input .stopchain true] 0 k) ∧
  (∀ (s : State) (input : Input) (v : Bool), s.activeAs .chair = true → (s.discrete.filter input).active ≠ v →
    input = .deadman ∨ (input = .stopchain ∧ v = true) ∨ (input = .seat ∧ v = true) ∨ (input = .confirm ∧ v = false) →
    s.link.notices.length < 32 →
    ∃ k, exec (.filteredEdge input v) s = .next { s with
        discrete := s.discrete.setFilter input ⟨v, true, some ⟨v, 3⟩⟩, link := k } ∧
      s.link.Posts (if (s.settings.input input).edge = true ∧ v = false then [] else [.input input v]) 0 k) ∧
  (∀ s : State, s.activeAs .chair = true → s.discrete.stopchain.active = true ∨ s.discrete.stopchain.settled = false →
    s.liu.classS.length < 2 → s.link.notices.length < 32 →
    let kept := s.discrete.stopList.filter (·.reason ≠ 2)
    let burst := s.holds.entries.flatMap fun e =>
      [0, 1, 2].map fun copy => (⟨e.loader, 2, s.now + ms (copy * s.settings.p)⟩ : StopEntry)
    ∃ t, exec (.filteredEdge .stopchain false) s = .next t ∧
      State.StopsJoined kept burst
        { s with discrete := { s.discrete with stopchain := ⟨false, true, some ⟨false, 3⟩⟩ } } t ∧
      s.link.Posts (if s.settings.stopchain.edge then [] else [.input .stopchain false])
        (0x0008 ||| s.stopFlags kept burst) t.link) ∧
  (∀ s : State, s.activeAs .chair = true → s.discrete.seat.active = true → s.liu.classS.length < 2 →
    s.link.notices.length < 32 →
    let stops (e : Entry) : Prop := (∃ o, e.phase = .held o) ∨ (∃ o, e.phase = .offering o)
    let opened : State := { s with discrete := { s.discrete with seat := ⟨false, true, some ⟨false, 3⟩⟩ } }
    let notices : List Notice := if s.settings.seat.edge then [] else [.input .seat false]
    (∀ e, s.driveEntry? = some e → stops e →
      ∃ t, exec (.filteredEdge .seat false) s = .next t ∧
        State.StopsJoined s.discrete.stopList [⟨e.loader, 3, s.now⟩] opened t ∧
        s.link.Posts notices (s.stopFlags s.discrete.stopList [⟨e.loader, 3, s.now⟩]) t.link) ∧
    ((∀ e, s.driveEntry? = some e → ¬ stops e) →
      ∃ k, exec (.filteredEdge .seat false) s = .next { opened with link := k } ∧ s.link.Posts notices 0 k))

/-- R153 to R155: samples. The filter of each input that the role samples, all four at a chair and STOPCHAIN alone
aboard a loader, takes its sample after the inversion: one that differs from the latest begins a new run, the second
equal one counts, and from the third the filter is settled in that state. A sample that takes no input to another
filtered state, and with which STOPCHAIN does not settle open for the first time, changes the filters alone; one
with which a single input does, does what the edge of that input does, the other filters having moved. The sample
timer starts again for 5 ms. The moment is the sample timer's own, and that one sample moment samples every input is
the model's choice (log entries 2 and 16). -/
def Obligations.ASampleMovesTheFilters : Prop :=
  ∀ (s : State) (due : Nat) (chain in2 in3 in4 : Bool), s.active = true → s.discrete.nextSample = some due →
    let sampled (i : Input) : Prop := s.startup.role = .chair ∨ i = .stopchain
    let value (i : Input) : Bool :=
      (match i with | .stopchain => chain | .seat => in2 | .deadman => in3 | .confirm => in4) !=
        (s.settings.input i).inverted
    let taken (i : Input) : InputFilter :=
      if sampled i then (s.discrete.filter i).taking (value i) else s.discrete.filter i
    let turns (i : Input) : Prop := sampled i ∧ (s.discrete.filter i).Turns i (value i)
    let next (filter : Input → InputFilter) : State :=
      { s with
        now := max s.now due
        discrete := { s.discrete with
          stopchain := filter .stopchain, seat := filter .seat, deadman := filter .deadman
          confirm := filter .confirm, nextSample := some (max s.now due + ms 5) } }
    let sample := exec (.inputSample chain in2 in3 in4) s
    ((∀ i, ¬ turns i) → sample = .next (next taken)) ∧
    (∀ i, turns i → (∀ j, j ≠ i → ¬ turns j) →
      sample = exec (.filteredEdge i (value i)) (next fun j => if j = i then s.discrete.filter i else taken j))

/-- R167, R170, R171: stops and clears from the console. STOP is checked for its value and for room in the stop list,
and STOP_ALL for room; one that passes adds one entry due now, behind the entries of the same time. While a STOP is
outstanding it waits in the list; otherwise the first entry of the list, which is due, is given to the LIU with the
epoch of a held loader, else 0, and sets the mark. At its not-before time, no STOP outstanding, the first entry is
given likewise. CLEAR is checked in its order; of a HELD entry, the chain closed and no CLEAR unsent, it gives a CLEAR
with the entry's epoch and marks it unsent. The moment of the list is its entry's own (log entry 2). -/
def Obligations.StopsAndClearsAreGivenToTheLine : Prop :=
  (∀ (s : State) (tag loader : Byte), s.Awaits (some .chair) →
    let badLoader := ¬ (isStation loader = true ∧ loader.toNat ≠ s.station)
    let full : Prop × ResultCode := (32 ≤ s.discrete.stopList.length, .listFull)
    let refused (request : Instr) (kind : Byte) (code : ResultCode) : Prop :=
      ∃ k, exec request s = .next { s with link := k } ∧ s.link.Replies kind tag code [] [] 0 k
    let joins (request : Instr) (kind : Byte) (new : StopEntry) : Prop :=
      s.discrete.stopList.length < 32 →
      let joined := insertStop new s.discrete.stopList
      (s.discrete.stopOutstanding = true →
        ∃ k, exec request s = .next { s with discrete := { s.discrete with stopList := joined }, link := k } ∧
          s.link.Replies kind tag .ok [] [] 0 k) ∧
      (∀ e rest, s.discrete.stopOutstanding = false → joined = e :: rest → s.liu.classS.length < 2 →
        ∃ k q, exec request s = .next { s with
            discrete := { s.discrete with stopList := rest, stopOutstanding := true }, liu := q, link := k } ∧
          Liu.Joined (TxFrame.make .stop e.loader e.loader ((s.entry? e.loader).map (·.epoch) |>.getD 0) [e.reason]
            .stop) s.liu q ∧
          s.link.Replies kind tag .ok [] [] 0 k)
    (∀ code, FirstFails [(badLoader, .badValue), full] code → refused (.stop tag loader) 0x19 code) ∧
    (¬ badLoader → joins (.stop tag loader) 0x19 ⟨loader.toNat, 1, s.now⟩) ∧
    (full.1 → refused (.stopAll tag) 0x1A .listFull) ∧
    joins (.stopAll tag) 0x1A ⟨0, 4, s.now⟩ ∧
    (let checks : List (Prop × ResultCode) :=
       [(badLoader, .badValue), (s.entry? loader.toNat = none, .notHeld),
         (∀ e, s.entry? loader.toNat = some e → ∀ o, e.phase ≠ .held o, .wrongPhase),
         (s.discrete.stopchain.active = false, .chainOpen), (s.discrete.clearUnsent = true, .busy)]
     (∀ code, FirstFails checks code → refused (.clear tag loader) 0x1B code) ∧
     (∀ e, (∀ c ∈ checks, ¬ c.1) → s.entry? loader.toNat = some e → s.liu.classS.length < 2 →
       ∃ k q, exec (.clear tag loader) s = .next { s with
           discrete := { s.discrete with clearUnsent := true }, liu := q, link := k } ∧
         Liu.Joined (TxFrame.make .clear loader.toNat loader.toNat e.epoch [] .clear) s.liu q ∧
         s.link.Replies 0x1B tag .ok [] [] 0 k))) ∧
  (∀ (s : State) (e : StopEntry) (rest : List StopEntry), s.activeAs .chair = true →
    s.discrete.stopOutstanding = false → s.discrete.stopList = e :: rest → s.liu.classS.length < 2 →
    ∃ q, exec .stopListDue s = .next { s with
        now := max s.now e.notBefore
        discrete := { s.discrete with stopList := rest, stopOutstanding := true }
        liu := q } ∧
      Liu.Joined (TxFrame.make .stop e.loader e.loader
        ((s.entry? e.loader).map (·.epoch) |>.getD 0) [e.reason] .stop) s.liu q)

/-- R13, R14: a class S frame given to a full class S, and a class A frame given to a full class A that holds no
ASSIST_CALL, are dropped and raise TX_OVERFLOW, and the queued frames are untouched; an ASSIST_CALL in a full class A
makes room for the newcomer without a flag. -/
def Obligations.AFrameWithoutRoomIsDropped : Prop :=
  ∀ (s : State) (f : TxFrame), s.active = true →
    (f.kind.frameClass = .s → s.liu.classS.length = 2 →
      s.give f = { s with link := s.link.raise .txOverflow }) ∧
    (f.kind.frameClass = .a → s.liu.classA.length = 8 → (∀ g ∈ s.liu.classA, g.kind ≠ .assistCall) →
      s.give f = { s with link := s.link.raise .txOverflow }) ∧
    (∀ before g after, f.kind.frameClass = .a → s.liu.classA = before ++ g :: after →
      s.liu.classA.length = 8 → (∀ x ∈ before, x.kind ≠ .assistCall) → g.kind = .assistCall →
      ∃ q, s.give f = { s with liu := q } ∧ q.classA = before ++ after ++ [f] ∧ q.classS = s.liu.classS ∧
        q.classC = s.liu.classC)

/-! ### The Local Link -/

/-- R173, R174: what the port does not take. A discarded message, by its own row or by 2 ms of silence, returns the
receiver to HUNT, raises LINK_ERROR and moves the link-error counter, which saturates at 255; a byte in HUNT other
than A5h is discarded without a flag. A request while the slot is busy is answered BUSY when no BUSY answer waits
unsent, and otherwise discarded with LINK_ERROR; the response in progress goes on. That a request so discarded is not
counted is the model's reading, the kind of the answer to a kind of 80h or more is free, and the moment of the silence
is its own (log entries 2, 17 and 38). -/
def Obligations.BadMessagesAreDiscardedAndBusyRequestsTurnedAway : Prop :=
  (∀ s : State, s.inService = true →
    exec .localMessageDiscarded s = .next { s with
      link := Link.raise .linkError
        { s.link with receiver := .hunt, linkErrors := min 255 (s.link.linkErrors + 1) } }) ∧
  (∀ (s : State) (last : Nat), s.inService = true → s.link.receiver.lastByte? = some last →
    exec .interByteTimeout s = .next { s with
      now := max s.now (last + ms 2)
      link := Link.raise .linkError
        { s.link with receiver := .hunt, linkErrors := min 255 (s.link.linkErrors + 1) } }) ∧
  (∀ (s : State) (b : Byte), s.inService = true → s.link.receiver = .hunt → b ≠ 0xA5 →
    exec (.llrxByteReceived b true) s = .next s) ∧
  (∀ s : State, s.inService = true → s.link.receiver = .hunt →
    exec (.llrxByteReceived 0xA5 true) s = .next { s with link := { s.link with receiver := .length s.now } }) ∧
  (∀ (s : State) (kind tag : Byte), s.inService = true → s.link.slotBusy = true → s.link.busyStream = [] →
    ∃ k answer, exec (.requestWhileBusy kind tag) s = .next { s with link := k } ∧
      (kind.toNat < 0x80 → answer = kind + 0x80) ∧
      k.busyStream = [⟨answer, tag, [1, 0]⟩] ∧ k.slotBusy = true ∧
      k.responseStream = s.link.responseStream ∧ k.noticeStream = s.link.noticeStream ∧
      k.flags = s.link.flags ∧ k.linkErrors = s.link.linkErrors ∧ k.restart = s.link.restart) ∧
  (∀ (s : State) (kind tag : Byte) (m : Message), s.inService = true → s.link.slotBusy = true →
    .busy m ∈ s.link.waiting →
    exec (.requestWhileBusy kind tag) s = .next { s with
      link := Link.raise .linkError { s.link with receiver := .hunt } })

/-- R181, R183, R186, R187: flags, mask, credit and mark. READ_FLAGS reports the flags as they stood and then clears
the named ones, in FAULT-HOLD all named but CONFIG_FAULT; SET_MASK replaces the mask with the named maskable flags and
reports it; ATTN is judged at each. ADD_CREDIT raises the credit, to at most 255, and reports it; with the transmitter
sending the notices wait, and an idle one starts the oldest notice, or, with no notice queued or the credit still 0, the
response alone. MARK is answered BUSY while a mark is pending; it
completes at once, raising MARK_DONE, when no notice is ahead of it, and otherwise is pending behind the notices
queued and the one in its sending. That the notice starts before the response to ADD_CREDIT is the model's reading
(log entry 11). -/
def Obligations.FlagsMaskCreditAndMark : Prop :=
  ∀ (s : State) (tag : Byte),
    let steady (k : Link) : Prop :=
      k.noticeStream = s.link.noticeStream ∧ k.credit = s.link.credit ∧ k.mark = s.link.mark ∧
        k.lastReport = s.link.lastReport ∧ k.linkErrors = s.link.linkErrors ∧ k.restart = s.link.restart
    (∀ named, s.Awaits none ∨ s.AwaitsInFault →
      ∃ k, exec (.readFlags tag named) s = .next { s with link := k } ∧
        k.Answers 0x02 tag .ok (bytesOfHalf s.link.flags) ∧
        k.flags = s.link.flags &&&
          ~~~(if s.startup.condition = .faultHold then named &&& ~~~(0x0400 : Half) else named) ∧
        k.mask = s.link.mask ∧ k.attn = k.attention ∧ steady k) ∧
    (∀ named, s.Awaits none →
      ∃ k, exec (.setMask tag named) s = .next { s with link := k } ∧
        k.Answers 0x03 tag .ok (bytesOfHalf (named &&& 0x0FF3)) ∧ k.mask = named &&& 0x0FF3 ∧
        k.flags = s.link.flags ∧ k.attn = k.attention ∧ steady k) ∧
    (∀ n : Byte, s.Awaits none →
      let credit := min 255 (s.link.credit + n.toNat)
      (s.link.tx.isSome = true →
        ∃ k, exec (.addCredit tag n) s = .next { s with link := k } ∧
          k.Answers 0x04 tag .ok [byte credit] ∧ k.credit = credit ∧ k.notices = s.link.notices ∧
          k.flags = s.link.flags ∧ k.noticeNumber = s.link.noticeNumber ∧ k.mark = s.link.mark) ∧
      (∀ x rest, s.link.tx = none → s.link.unsentRecord = none → s.link.waiting = [] → s.link.notices = x :: rest →
        0 < s.link.credit + n.toNat →
        ∃ k, exec (.addCredit tag n) s = .next { s with link := k } ∧
          k.Answers 0x04 tag .ok [byte credit] ∧ k.credit = credit - 1 ∧ k.notices = rest ∧
          k.noticeNumber = s.link.noticeNumber + 1 ∧
          k.tx = some ⟨.notice, ⟨x.code, s.link.noticeNumber, x.body⟩, s.now⟩ ∧ k.flags = s.link.flags) ∧
      (s.link.tx = none → s.link.unsentRecord = none → s.link.waiting = [] →
        s.link.notices = [] ∨ s.link.credit + n.toNat = 0 →
        ∃ k, exec (.addCredit tag n) s = .next { s with link := k } ∧
          k.Answers 0x04 tag .ok [byte credit] ∧ k.credit = credit ∧ k.notices = s.link.notices ∧
          k.noticeNumber = s.link.noticeNumber ∧ k.tx.map (·.what) = some .response ∧ k.flags = s.link.flags ∧
          k.mark = s.link.mark)) ∧
    (s.Awaits none →
      (s.link.mark.isSome = true →
        ∃ k, exec (.mark tag) s = .next { s with link := k } ∧ s.link.Replies 0x05 tag .busy [] [] 0 k) ∧
      (s.link.mark = none → s.link.noticeStream = [] →
        ∃ k, exec (.mark tag) s = .next { s with link := k } ∧ s.link.Replies 0x05 tag .ok [0] [] 0x0010 k) ∧
      (s.link.mark = none → s.link.noticeStream ≠ [] →
        ∃ k, exec (.mark tag) s = .next { s with link := k } ∧
          k.Answers 0x05 tag .ok [byte s.link.noticeStream.length] ∧
          k.mark = some s.link.noticeStream.length ∧ k.noticeStream = s.link.noticeStream ∧
          k.flags = s.link.flags ∧ k.credit = s.link.credit))

/-- R2, R22, R174, R176, R178, R180, R181, R183, R184, R188, R191, R193: a RESTART is answered OK and kept until its response
has been sent; in FAULT-HOLD a soft one is answered CONFIG_FAULT and a full one is taken. When the sending of the
last response message is complete, the slot is free, and a requested restart begins. After a soft one the record is
FREE, the tables are empty, the latch, the straps, the settings and the condition are kept, and the unit is active
again. A full one reads the straps and begins a load, or fails it at once for a station of 0; the flags but
COLD_START are cleared. Either discards the partial frame of a reception, and where it lowers LKEY under a raised LCD
a reception begins. At every other completion the next part of the response waits, a notice moves a pending mark, and
the transmitter sends the first of the messages waiting: the unsent record, the oldest response message or BUSY
answer, the oldest notice under credit; with none it is idle. The moment of the completion, the place of a next part
behind a BUSY answer that waits, the straps as an operand, the latch that a chair's load clears, and the reception
that a restart begins are the model's (log entries 12, 18, 31, 34 and 37). -/
def Obligations.AMessageSentMakesWayForTheNextOrForARestart : Prop :=
  (∀ (s : State) (tag : Byte),
    let taken (request : Instr) (kind : RequestedRestart) : Prop :=
      ∃ k, exec request s = .next { s with link := k } ∧ k.Answers 0x07 tag .ok [] ∧
        k.restart = some kind ∧ k.flags = s.link.flags ∧ k.noticeStream = s.link.noticeStream
    (s.Awaits none → taken (.restartSoft tag) .soft) ∧
    (s.Awaits none ∨ s.AwaitsInFault → taken (.restartFull tag) .full) ∧
    (s.AwaitsInFault →
      ∃ k, exec (.restartSoft tag) s = .next { s with link := k } ∧
        s.link.Replies 0x07 tag .configFault [] [] 0 k)) ∧
  (∀ (s : State) (straps : Straps) (x : Transmission), s.inService = true → s.link.tx = some x →
    x.what = .response → s.link.parts = [] →
    let restarted (t : State) : Prop :=
      t.liu.lcd = s.liu.lcd ∧ t.liu.receiving = (s.liu.lkey && s.liu.lcd) ∧ t.liu.rxBuffer = [] ∧ t.liu.rxCount = 0
    (s.link.restart = some .soft → s.startup.condition = .running →
      ∃ t, exec (.messageSent straps) s = .next t ∧ t.now = max s.now x.endsAt ∧ t.startup = s.startup ∧
        t.record = { } ∧ t.holds = { } ∧ t.board = { } ∧ t.discrete.latch = s.discrete.latch ∧
        t.discrete.motionEnable = false ∧ t.envelope.cap = 0 ∧ t.link.slotBusy = false ∧ t.link.credit = 0 ∧
        t.liu.sequence = 0 ∧ t.liu.lkey = false ∧ restarted t ∧ t.active = true) ∧
    (s.link.restart = some .full →
      ∃ t, exec (.messageSent straps) s = .next t ∧ t.now = max s.now x.endsAt ∧ t.record = { } ∧ t.holds = { } ∧
        t.board = { } ∧ t.discrete = { latch := if straps.role then s.discrete.latch else none } ∧
        t.liu = { lcd := s.liu.lcd, receiving := t.liu.receiving } ∧ restarted t ∧
        t.startup = { s.startup with
          station := straps.station.toNat
          role := if straps.role then .loader else .chair
          condition := if straps.station = 0 then .faultHold else .loading
          load := if straps.station = 0 then .idle else .readingStatus 0 } ∧
        t.link.flags = s.link.flags &&& 0x0800 ||| (if straps.station = 0 then 0x0400 else 0))) ∧
  (∀ (s : State) (straps : Straps) (x : Transmission), s.inService = true → s.link.tx = some x →
    s.link.restart = none ∨ (s.link.slotBusy = true ∧ ¬ (x.what = .response ∧ s.link.parts = [])) →
    let now := max s.now x.endsAt
    let response := decide (x.what = .response)
    let marked : Link :=
      match s.link.mark with
      | none => s.link
      | some n =>
        if x.what ≠ .notice then s.link
        else if 2 ≤ n then { s.link with mark := some (n - 1) }
        else Link.raise .markDone { s.link with mark := none }
    let waiting : List Waiting :=
      s.link.waiting ++ (if response then s.link.parts.head?.toList.map .response else [])
    let ended : Link :=
      { marked with
        tx := none, waiting
        parts := if response then s.link.parts.tail else s.link.parts
        slotBusy := s.link.slotBusy && !(response && s.link.parts.isEmpty) }
    let goesOn (k : Link) : Prop := exec (.messageSent straps) s = .next { s with now, link := k }
    (∀ r, s.link.unsentRecord = some r →
      goesOn { ended with
        unsentRecord := none, recordNumber := s.link.recordNumber + 1
        tx := some ⟨.record, ⟨0x70, s.link.recordNumber, r.body⟩, now⟩ }) ∧
    (s.link.unsentRecord = none →
      (∀ m rest, waiting = .response m :: rest →
        goesOn { ended with waiting := rest, tx := some ⟨.response, m, now⟩ }) ∧
      (∀ m rest, waiting = .busy m :: rest →
        goesOn { ended with waiting := rest, tx := some ⟨.busy, m, now⟩ }) ∧
      (∀ n rest, waiting = [] → s.link.notices = n :: rest → 0 < s.link.credit →
        goesOn { ended with
          notices := rest, credit := s.link.credit - 1, noticeNumber := s.link.noticeNumber + 1
          tx := some ⟨.notice, ⟨n.code, s.link.noticeNumber, n.body⟩, now⟩ }) ∧
      (waiting = [] → s.link.notices = [] ∨ s.link.credit = 0 → goesOn ended)))

/-- R175: the checks 1 to 4, in their order, of a request that finds the slot free: BAD_VALUE for a kind that is in no
row of Table 10-4, NOT_READY while loading, CONFIG_FAULT in FAULT-HOLD but for READ_IDENTITY, READ_FLAGS and RESTART,
and ROLE for the other role's request. A request that fails one changes nothing but for its answer, whose kind is the
request's plus 80h; that of a kind of 80h or more is free (log entry 38). -/
def Obligations.ARequestIsCheckedBeforeItIsCarriedOut : Prop :=
  (∀ (s : State) (kind tag : Byte), s.inService = true → s.link.slotBusy = false → s.link.responseStream = [] →
    (kind.toNat < 0x80 → responseKind kind = kind + 0x80) ∧
    ∃ k, exec (.unknownRequestKind kind tag) s = .next { s with link := k } ∧
      s.link.Replies kind tag .badValue [] [] 0 k) ∧
  (∀ (c : Instr) (m : Message) (role : RequestRole) (s : State) (code : ResultCode),
    requestMessage? c = some (m, role) → s.inService = true → s.link.slotBusy = false →
    s.link.responseStream = [] →
    ((s.startup.condition = .loading ∧ code = .notReady) ∨
     (s.startup.condition = .faultHold ∧ m.kind ≠ 0x01 ∧ m.kind ≠ 0x02 ∧ m.kind ≠ 0x07 ∧ code = .configFault) ∨
     (s.startup.condition = .running ∧ (∃ r, role = some r ∧ r ≠ s.startup.role) ∧ code = .role)) →
    ∃ k, exec c s = .next { s with link := k } ∧ s.link.Replies m.kind m.tag code [] [] 0 k)

/-! ### Start-up and Configuration -/

/-- R158, R160, R161, R188, R189, R191, R193, R194: supply and RESET. A power-on clears the latch, raises COLD_START
alone and holds the part for 20 ms, at whose end, RESET high, the load reads the straps: with a STATION strap of 0 it
fails at once, in FAULT-HOLD with CONFIG_FAULT. A fall of the supply stops the part. A low RESET of at least 10 µs
begins a pin restart that keeps the latch and COLD_START and drives ATTN high, and a shorter low pulse is ignored; at
the rise of RESET the load begins. The moment of the hold's end, the strap values between the loads, the low time and
the straps as operands, a power-on of a part that is up, what a fall of the supply leaves, and the latch that a
chair's load clears are the model's (log entries 2, 5, 19, 34 and 37). -/
def Obligations.SupplyAndResetRestartThePart : Prop :=
  let role (straps : Straps) : Role := if straps.role then .loader else .chair
  let loading (straps : Straps) (s : State) : Discrete :=
    { s.discrete with latch := if straps.role then s.discrete.latch else none }
  (∀ s : State, ∃ t, exec .powerOn s = .next t ∧
    t = { pending := s.pending, now := s.now
          startup := { s.startup with
            powered := true, hold := some (s.now + ms 20), condition := .loading, load := .idle }
          liu := { lcd := s.liu.lcd }
          link := { flags := 0x0800, attn := !s.startup.resetLow } }) ∧
  (∀ (s : State) (straps : Straps) (due : Nat), s.startup.powered = true → s.startup.hold = some due →
    s.startup.resetLow = false →
    (straps.station ≠ 0 →
      exec (.powerOnHoldExpiry straps) s = .next { s with
        now := max s.now due
        startup := { s.startup with
          hold := none, condition := .loading, load := .readingStatus 0
          role := role straps, station := straps.station.toNat }
        discrete := loading straps s }) ∧
    (straps.station = 0 →
      ∃ k, exec (.powerOnHoldExpiry straps) s = .next { s with
          now := max s.now due
          startup := { s.startup with
            hold := none, condition := .faultHold, load := .idle, role := role straps, station := 0 }
          discrete := loading straps s
          link := k } ∧
        s.link.Posts [] 0x0400 k)) ∧
  (∀ s : State, s.startup.powered = true →
    exec .supplyFall s = .next
      { pending := s.pending, now := s.now
        startup := { s.startup with powered := false, hold := none, condition := .loading, load := .idle }
        liu := { lcd := s.liu.lcd } }) ∧
  (∀ (s : State) (low : Nat), s.startup.powered = true → s.startup.resetLow = false →
    (10 ≤ low →
      exec (.resetFallFor low) s = .next
        { pending := s.pending, now := s.now
          startup := { s.startup with resetLow := true, condition := .loading, load := .idle }
          liu := { lcd := s.liu.lcd }
          discrete := { latch := s.discrete.latch }
          link := { flags := s.link.flags &&& 0x0800 } }) ∧
    (low < 10 → exec (.resetFallFor low) s = .next s)) ∧
  (∀ (s : State) (straps : Straps), s.startup.powered = true → s.startup.resetLow = true →
    s.startup.hold = none → straps.station ≠ 0 →
    exec (.resetRise straps) s = .next { s with
      startup := { s.startup with
        resetLow := false, condition := .loading, load := .readingStatus 0
        role := role straps, station := straps.station.toNat }
      discrete := loading straps s
      link := { s.link with attn := s.link.attention } })

/-- R190 to R192, R20, R21: the configuration load. A status byte with bit 0 clear, other than 00h, shows a ready memory,
and the block is read; otherwise the status is read again after 5 ms, and the tenth read that shows no ready memory fails
the load. A block whose check differs fails the load; one whose check agrees is decoded and clamped, the condition becomes
RUNNING and the unit active: a reception under way goes on, and under a raised LCD the line-blocked timer starts. Every
setting of Table 11-2 follows from its byte, clamped. The other role's settings are kept, the moment of the retry is its
own, and that a reception goes on is the model's reading (log entries 2, 18 and 29). -/
def Obligations.TheConfigurationLoadRuns : Prop :=
  (∀ (s : State) (status : Byte) (tries : Nat), s.inService = true → s.startup.load = .readingStatus tries →
    (status.getLsbD 0 = false → status ≠ 0 →
      exec (.memoryStatusRead status) s = .next { s with startup := { s.startup with load := .readingBlock } }) ∧
    (status.getLsbD 0 = true ∨ status = 0 → tries < 9 →
      exec (.memoryStatusRead status) s = .next { s with
        startup := { s.startup with load := .waiting (tries + 1) (s.now + ms 5) } }) ∧
    (status.getLsbD 0 = true ∨ status = 0 → 9 ≤ tries →
      ∃ k, exec (.memoryStatusRead status) s = .next { s with
          startup := { s.startup with condition := .faultHold, load := .idle }, link := k } ∧
        s.link.Posts [] 0x0400 k)) ∧
  (∀ (s : State) (tries due : Nat), s.inService = true → s.startup.load = .waiting tries due →
    exec .memoryRetryExpiry s = .next { s with
      now := max s.now due, startup := { s.startup with load := .readingStatus tries } }) ∧
  (∀ (s : State) (block : List Byte), s.inService = true → s.startup.load = .readingBlock → block.length = 50 →
    (checkBytes (block.take 48) ≠ block.drop 48 →
      ∃ k, exec (.settingsBlockRead block) s = .next { s with
          startup := { s.startup with condition := .faultHold, load := .idle }, link := k } ∧
        s.link.Posts [] 0x0400 k) ∧
    (checkBytes (block.take 48) = block.drop 48 → s.startup.role = .chair →
      exec (.settingsBlockRead block) s = .next { s with
        startup := { s.startup with
          settings := decodeSettings .chair block s.startup.settings, condition := .running, load := .idle }
        liu := { s.liu with
          gapFrom := s.now, blocked := if s.liu.lcd then some (s.now + sec 2) else none }
        discrete := { s.discrete with nextSample := some (s.now + ms 5) }
        relay := { s.relay with
          driveTimer := some (s.now + ms (decodeSettings .chair block s.startup.settings).p) } }) ∧
    (checkBytes (block.take 48) = block.drop 48 → s.startup.role = .loader → s.link.notices.length < 32 →
      ∃ t, exec (.settingsBlockRead block) s = .next t ∧
        t.startup = { s.startup with
          settings := decodeSettings .loader block s.startup.settings, condition := .running, load := .idle } ∧
        t.record = s.record ∧ t.envelope = { s.envelope with timer := some (s.now + ms t.settings.p) } ∧
        t.discrete = { s.discrete with nextSample := some (s.now + ms 5) } ∧
        t.liu.receiving = s.liu.receiving ∧ t.liu.rxBuffer = s.liu.rxBuffer ∧ t.liu.rxCount = s.liu.rxCount ∧
        t.liu.blocked = (if s.liu.lcd then some (s.now + sec 2) else none) ∧
        t.link.flags = (if s.discrete.latch.isSome then s.link.flags ||| 0x0004 else s.link.flags) ∧
        t.link.noticeStream = s.link.stateStream t.stateNotice)) ∧
  (∀ (block : List Byte) (old : Settings), block.length = 50 →
    let at' (i : Nat) : Nat := (block.getD i 0).toNat
    let input (i : Nat) : InputSettings := ⟨at' i % 2 = 1, at' i / 2 % 2 = 1⟩
    let common (c : Settings) : Prop :=
      c.p ∈ [50, 80, 100, 125, 160, 200] ∧ (50 ≤ at' 0 → c.p ≤ at' 0) ∧
      (∀ p ∈ [50, 80, 100, 125, 160, 200], p ≤ at' 0 → p ≤ c.p) ∧ (at' 0 < 50 → c.p = 50) ∧
      c.l = max 3 (min (at' 1) 15) ∧ c.s = max 2 (min (at' 2) 20) ∧ c.tx = max 2 (min (at' 3) 30) ∧
      c.stopchain = input 18 ∧ c.seat = input 19 ∧ c.deadman = input 20 ∧ c.confirm = input 21
    let loader := decodeSettings .loader block old
    let chair := decodeSettings .chair block old
    common loader ∧ loader.tr = max 5 (min (at' 4) 60) ∧ loader.vmax = min 250 (at' 6) ∧
    loader.vauto = min 250 (at' 7) ∧ loader.vrev = min loader.vmax (at' 8) ∧
    loader.vcrawl = min loader.vmax (at' 9) ∧ loader.rup = max 1 (min (at' 10) 50) ∧
    loader.homePool = (if 1 ≤ at' 12 ∧ at' 12 ≤ 8 then at' 12 else 1) ∧
    (∀ n, n ∈ loader.seniorSet ↔
      (1 ≤ n ∧ n ≤ 63 ∧ (n = at' 14 ∨ n = at' 15 ∨ n = at' 16 ∨ n = at' 17))) ∧
    loader.g = old.g ∧ loader.pools = old.pools ∧ loader.senior = old.senior ∧
    common chair ∧ chair.g = max 1 (min (at' 5) 5) ∧ chair.pools = block.getD 11 0 ∧
    (chair.senior = true ↔ at' 13 ≠ 0) ∧
    chair.tr = old.tr ∧ chair.vmax = old.vmax ∧ chair.vauto = old.vauto ∧ chair.vrev = old.vrev ∧
    chair.vcrawl = old.vcrawl ∧ chair.rup = old.rup ∧ chair.homePool = old.homePool ∧
    chair.seniorSet = old.seniorSet)

end Statements
end

