-- ==== Sys2Proof/Laws/Envelope.lean ====
section
/-!
SUPPORT. What an evaluation, a command record, a setting of the stop latch and a change of the Hold Table can do: one
lemma for each shared operation.
-/

namespace Sys2Proof.Machine

/-! ### The Envelope (R122 to R131, R135) -/

/-- R130: an interval evaluation raises the cap by at most Rup, and a lowering evaluation does not raise it. -/
theorem State.capOf_le (e : Evaluation) (s : State) :
    s.capOf e ≤ s.envelope.cap + (match e with | .interval => s.settings.rup | .lowering => 0) := by
  unfold State.capOf riseLimit
  split
  · omega
  · cases e <;> simp only <;> omega

/-- R130: the override of an evaluation: the cap is 0. -/
theorem State.capOf_overridden (e : Evaluation) (s : State) (h : s.overridden = true) : s.capOf e = 0 := by
  simp [State.capOf, h]

/-- R129: the zone bounds the cap while the REPORT is fresh. -/
theorem State.zoneTerm_le (vp : Nat) (s : State) : s.zoneTerm vp ≤ vp := by
  unfold State.zoneTerm
  repeat' split
  all_goals omega

/-- R123: the link term is at most Vmax when no more than eight slots are good. -/
theorem linkTerm_le (vmax q : Nat) (h : q ≤ 8) : linkTerm vmax q ≤ vmax := by
  unfold linkTerm
  exact (Nat.div_le_div_right (Nat.mul_le_mul_left vmax h)).trans_eq (Nat.mul_div_cancel vmax (by decide))

/-- R124: the age term is at most the link term. -/
theorem ageTerm_le (tf tl vq age : Nat) : ageTerm tf tl vq age ≤ vq := by
  unfold ageTerm
  split
  · exact Nat.le_refl vq
  · split
    · exact Nat.div_le_of_le_mul (by rw [Nat.mul_comm]; exact Nat.mul_le_mul_right _ (by omega))
    · exact Nat.zero_le _

/-! ### Command records (R152, R180, R184) -/

/-- R152, R184: a record given is the last record, and the command stream takes it. -/
theorem State.giveRecord_spec (r : CommandRecord) (s : State) :
    s.giveRecord r = { s with
      relay := { s.relay with lastRecord := r }, link := s.link.withRecord s.now r } := by
  unfold State.giveRecord Link.withRecord Link.start
  cases h : s.link.tx <;> simp [h]

/-- R146: a travel is clamped to the range from the lesser of cap and Vrev in reverse to the cap. -/
theorem State.clampTravel_bounds (x : Int) (s : State) :
    -(min s.envelope.cap s.settings.vrev : Nat) ≤ s.clampTravel x ∧ s.clampTravel x ≤ s.envelope.cap := by
  unfold State.clampTravel clampInt
  omega

/-! ### The Hold Table -/

/-- A change of one entry keeps the number of entries. -/
@[simp] theorem State.mapEntry_length (loader : Nat) (f : Entry → Entry) (s : State) :
    (s.mapEntry loader f).holds.entries.length = s.holds.entries.length := by
  simp [State.mapEntry]

/-- A change of one entry that keeps its loader keeps the loaders of the table, in their order. -/
theorem State.mapEntry_loaders (loader : Nat) (f : Entry → Entry) (s : State) (h : ∀ e, (f e).loader = e.loader) :
    (s.mapEntry loader f).holds.entries.map (·.loader) = s.holds.entries.map (·.loader) := by
  simp only [State.mapEntry, List.map_map]
  congr 1
  funext e
  by_cases he : e.loader = loader <;> simp [he, h]

/-- The entry that is found for a loader is that loader's, and stands in the table. -/
theorem State.entry?_some {loader : Nat} {s : State} {e : Entry} (h : s.entry? loader = some e) :
    e.loader = loader ∧ e ∈ s.holds.entries :=
  ⟨by simpa using List.find?_some h, List.mem_of_find?_eq_some h⟩

end Sys2Proof.Machine
end

