-- ==== Sys2Proof/Laws/State.lean ====
section
/-!
SUPPORT. What each shared operation leaves of the state, one lemma for each block, so that no proof unfolds a record
update. The lemmas are named after the operation and the block.
-/

namespace Sys2Proof.Machine

/-! ### Operations that are one record update -/

@[simp] theorem State.reach_pending (due : Nat) (s : State) : (s.reach due).pending = s.pending := rfl
@[simp] theorem State.reach_startup (due : Nat) (s : State) : (s.reach due).startup = s.startup := rfl
@[simp] theorem State.reach_liu (due : Nat) (s : State) : (s.reach due).liu = s.liu := rfl
@[simp] theorem State.reach_record (due : Nat) (s : State) : (s.reach due).record = s.record := rfl
@[simp] theorem State.reach_monitor (due : Nat) (s : State) : (s.reach due).monitor = s.monitor := rfl
@[simp] theorem State.reach_envelope (due : Nat) (s : State) : (s.reach due).envelope = s.envelope := rfl
@[simp] theorem State.reach_relay (due : Nat) (s : State) : (s.reach due).relay = s.relay := rfl
@[simp] theorem State.reach_holds (due : Nat) (s : State) : (s.reach due).holds = s.holds := rfl
@[simp] theorem State.reach_board (due : Nat) (s : State) : (s.reach due).board = s.board := rfl
@[simp] theorem State.reach_discrete (due : Nat) (s : State) : (s.reach due).discrete = s.discrete := rfl
@[simp] theorem State.reach_link (due : Nat) (s : State) : (s.reach due).link = s.link := rfl

theorem State.reach_now (due : Nat) (s : State) : (s.reach due).now = max s.now due := rfl

@[simp] theorem State.raise_pending (f : EventFlag) (s : State) : (s.raise f).pending = s.pending := rfl
@[simp] theorem State.raise_now (f : EventFlag) (s : State) : (s.raise f).now = s.now := rfl
@[simp] theorem State.raise_startup (f : EventFlag) (s : State) : (s.raise f).startup = s.startup := rfl
@[simp] theorem State.raise_liu (f : EventFlag) (s : State) : (s.raise f).liu = s.liu := rfl
@[simp] theorem State.raise_record (f : EventFlag) (s : State) : (s.raise f).record = s.record := rfl
@[simp] theorem State.raise_monitor (f : EventFlag) (s : State) : (s.raise f).monitor = s.monitor := rfl
@[simp] theorem State.raise_envelope (f : EventFlag) (s : State) : (s.raise f).envelope = s.envelope := rfl
@[simp] theorem State.raise_relay (f : EventFlag) (s : State) : (s.raise f).relay = s.relay := rfl
@[simp] theorem State.raise_holds (f : EventFlag) (s : State) : (s.raise f).holds = s.holds := rfl
@[simp] theorem State.raise_board (f : EventFlag) (s : State) : (s.raise f).board = s.board := rfl
@[simp] theorem State.raise_discrete (f : EventFlag) (s : State) : (s.raise f).discrete = s.discrete := rfl

@[simp] theorem State.raise_link (f : EventFlag) (s : State) : (s.raise f).link = s.link.raise f := rfl

@[simp] theorem State.post_pending (n : Notice) (s : State) : (s.post n).pending = s.pending := rfl
@[simp] theorem State.post_now (n : Notice) (s : State) : (s.post n).now = s.now := rfl
@[simp] theorem State.post_startup (n : Notice) (s : State) : (s.post n).startup = s.startup := rfl
@[simp] theorem State.post_liu (n : Notice) (s : State) : (s.post n).liu = s.liu := rfl
@[simp] theorem State.post_record (n : Notice) (s : State) : (s.post n).record = s.record := rfl
@[simp] theorem State.post_monitor (n : Notice) (s : State) : (s.post n).monitor = s.monitor := rfl
@[simp] theorem State.post_envelope (n : Notice) (s : State) : (s.post n).envelope = s.envelope := rfl
@[simp] theorem State.post_relay (n : Notice) (s : State) : (s.post n).relay = s.relay := rfl
@[simp] theorem State.post_holds (n : Notice) (s : State) : (s.post n).holds = s.holds := rfl
@[simp] theorem State.post_board (n : Notice) (s : State) : (s.post n).board = s.board := rfl
@[simp] theorem State.post_discrete (n : Notice) (s : State) : (s.post n).discrete = s.discrete := rfl

@[simp] theorem State.post_link (n : Notice) (s : State) : (s.post n).link = (s.link.placeNotice n).start s.now := rfl

@[simp] theorem State.giveRecord_pending (r : CommandRecord) (s : State) : (s.giveRecord r).pending = s.pending := rfl
@[simp] theorem State.giveRecord_now (r : CommandRecord) (s : State) : (s.giveRecord r).now = s.now := rfl
@[simp] theorem State.giveRecord_startup (r : CommandRecord) (s : State) : (s.giveRecord r).startup = s.startup := rfl
@[simp] theorem State.giveRecord_liu (r : CommandRecord) (s : State) : (s.giveRecord r).liu = s.liu := rfl
@[simp] theorem State.giveRecord_record (r : CommandRecord) (s : State) : (s.giveRecord r).record = s.record := rfl
@[simp] theorem State.giveRecord_monitor (r : CommandRecord) (s : State) : (s.giveRecord r).monitor = s.monitor := rfl
@[simp] theorem State.giveRecord_envelope (r : CommandRecord) (s : State) : (s.giveRecord r).envelope = s.envelope := rfl
@[simp] theorem State.giveRecord_holds (r : CommandRecord) (s : State) : (s.giveRecord r).holds = s.holds := rfl
@[simp] theorem State.giveRecord_board (r : CommandRecord) (s : State) : (s.giveRecord r).board = s.board := rfl
@[simp] theorem State.giveRecord_discrete (r : CommandRecord) (s : State) : (s.giveRecord r).discrete = s.discrete := rfl

@[simp] theorem State.giveRecord_relay (r : CommandRecord) (s : State) :
    (s.giveRecord r).relay = { s.relay with lastRecord := r } := rfl

@[simp] theorem State.mapEntry_pending (l : Nat) (f : Entry → Entry) (s : State) : (s.mapEntry l f).pending = s.pending := rfl
@[simp] theorem State.mapEntry_now (l : Nat) (f : Entry → Entry) (s : State) : (s.mapEntry l f).now = s.now := rfl
@[simp] theorem State.mapEntry_startup (l : Nat) (f : Entry → Entry) (s : State) : (s.mapEntry l f).startup = s.startup := rfl
@[simp] theorem State.mapEntry_liu (l : Nat) (f : Entry → Entry) (s : State) : (s.mapEntry l f).liu = s.liu := rfl
@[simp] theorem State.mapEntry_record (l : Nat) (f : Entry → Entry) (s : State) : (s.mapEntry l f).record = s.record := rfl
@[simp] theorem State.mapEntry_monitor (l : Nat) (f : Entry → Entry) (s : State) : (s.mapEntry l f).monitor = s.monitor := rfl
@[simp] theorem State.mapEntry_envelope (l : Nat) (f : Entry → Entry) (s : State) : (s.mapEntry l f).envelope = s.envelope := rfl
@[simp] theorem State.mapEntry_relay (l : Nat) (f : Entry → Entry) (s : State) : (s.mapEntry l f).relay = s.relay := rfl
@[simp] theorem State.mapEntry_board (l : Nat) (f : Entry → Entry) (s : State) : (s.mapEntry l f).board = s.board := rfl
@[simp] theorem State.mapEntry_discrete (l : Nat) (f : Entry → Entry) (s : State) : (s.mapEntry l f).discrete = s.discrete := rfl
@[simp] theorem State.mapEntry_link (l : Nat) (f : Entry → Entry) (s : State) : (s.mapEntry l f).link = s.link := rfl

@[simp] theorem State.inform_pending (s : State) : (s.inform).pending = s.pending := rfl
@[simp] theorem State.inform_now (s : State) : (s.inform).now = s.now := rfl
@[simp] theorem State.inform_startup (s : State) : (s.inform).startup = s.startup := rfl
@[simp] theorem State.inform_liu (s : State) : (s.inform).liu = s.liu := rfl
@[simp] theorem State.inform_record (s : State) : (s.inform).record = s.record := rfl
@[simp] theorem State.inform_envelope (s : State) : (s.inform).envelope = s.envelope := rfl
@[simp] theorem State.inform_holds (s : State) : (s.inform).holds = s.holds := rfl
@[simp] theorem State.inform_board (s : State) : (s.inform).board = s.board := rfl
@[simp] theorem State.inform_discrete (s : State) : (s.inform).discrete = s.discrete := rfl
@[simp] theorem State.inform_link (s : State) : (s.inform).link = s.link := rfl

@[simp] theorem State.inform_monitor (s : State) : s.inform.monitor = { s.monitor with view := s.record.view } := rfl
@[simp] theorem State.inform_relay (s : State) : s.inform.relay = { s.relay with view := s.record.view } := rfl

@[simp] theorem State.judgeMotion_pending (s : State) : (s.judgeMotion).pending = s.pending := rfl
@[simp] theorem State.judgeMotion_now (s : State) : (s.judgeMotion).now = s.now := rfl
@[simp] theorem State.judgeMotion_startup (s : State) : (s.judgeMotion).startup = s.startup := rfl
@[simp] theorem State.judgeMotion_liu (s : State) : (s.judgeMotion).liu = s.liu := rfl
@[simp] theorem State.judgeMotion_record (s : State) : (s.judgeMotion).record = s.record := rfl
@[simp] theorem State.judgeMotion_monitor (s : State) : (s.judgeMotion).monitor = s.monitor := rfl
@[simp] theorem State.judgeMotion_envelope (s : State) : (s.judgeMotion).envelope = s.envelope := rfl
@[simp] theorem State.judgeMotion_relay (s : State) : (s.judgeMotion).relay = s.relay := rfl
@[simp] theorem State.judgeMotion_holds (s : State) : (s.judgeMotion).holds = s.holds := rfl
@[simp] theorem State.judgeMotion_board (s : State) : (s.judgeMotion).board = s.board := rfl
@[simp] theorem State.judgeMotion_link (s : State) : (s.judgeMotion).link = s.link := rfl

@[simp] theorem State.judgeMotion_discrete (s : State) :
    s.judgeMotion.discrete = { s.discrete with motionEnable := s.motionCondition } := rfl

@[simp] theorem State.showState_pending (s : State) : (s.showState).pending = s.pending := rfl
@[simp] theorem State.showState_now (s : State) : (s.showState).now = s.now := rfl
@[simp] theorem State.showState_startup (s : State) : (s.showState).startup = s.startup := rfl
@[simp] theorem State.showState_liu (s : State) : (s.showState).liu = s.liu := rfl
@[simp] theorem State.showState_record (s : State) : (s.showState).record = s.record := rfl
@[simp] theorem State.showState_monitor (s : State) : (s.showState).monitor = s.monitor := rfl
@[simp] theorem State.showState_envelope (s : State) : (s.showState).envelope = s.envelope := rfl
@[simp] theorem State.showState_relay (s : State) : (s.showState).relay = s.relay := rfl
@[simp] theorem State.showState_holds (s : State) : (s.showState).holds = s.holds := rfl
@[simp] theorem State.showState_board (s : State) : (s.showState).board = s.board := rfl
@[simp] theorem State.showState_link (s : State) : (s.showState).link = s.link := rfl

@[simp] theorem State.evaluate_pending (e : Evaluation) (s : State) : (s.evaluate e).pending = s.pending := rfl
@[simp] theorem State.evaluate_now (e : Evaluation) (s : State) : (s.evaluate e).now = s.now := rfl
@[simp] theorem State.evaluate_startup (e : Evaluation) (s : State) : (s.evaluate e).startup = s.startup := rfl
@[simp] theorem State.evaluate_liu (e : Evaluation) (s : State) : (s.evaluate e).liu = s.liu := rfl
@[simp] theorem State.evaluate_record (e : Evaluation) (s : State) : (s.evaluate e).record = s.record := rfl
@[simp] theorem State.evaluate_monitor (e : Evaluation) (s : State) : (s.evaluate e).monitor = s.monitor := rfl
@[simp] theorem State.evaluate_relay (e : Evaluation) (s : State) : (s.evaluate e).relay = s.relay := rfl
@[simp] theorem State.evaluate_holds (e : Evaluation) (s : State) : (s.evaluate e).holds = s.holds := rfl
@[simp] theorem State.evaluate_board (e : Evaluation) (s : State) : (s.evaluate e).board = s.board := rfl
@[simp] theorem State.evaluate_discrete (e : Evaluation) (s : State) : (s.evaluate e).discrete = s.discrete := rfl
@[simp] theorem State.evaluate_link (e : Evaluation) (s : State) : (s.evaluate e).link = s.link := rfl

@[simp] theorem State.evaluate_envelope (e : Evaluation) (s : State) :
    (s.evaluate e).envelope = { s.envelope with cap := s.capOf e } := rfl

@[simp] theorem State.scoreSlot_pending (s : State) : (s.scoreSlot).pending = s.pending := rfl
@[simp] theorem State.scoreSlot_now (s : State) : (s.scoreSlot).now = s.now := rfl
@[simp] theorem State.scoreSlot_startup (s : State) : (s.scoreSlot).startup = s.startup := rfl
@[simp] theorem State.scoreSlot_liu (s : State) : (s.scoreSlot).liu = s.liu := rfl
@[simp] theorem State.scoreSlot_record (s : State) : (s.scoreSlot).record = s.record := rfl
@[simp] theorem State.scoreSlot_envelope (s : State) : (s.scoreSlot).envelope = s.envelope := rfl
@[simp] theorem State.scoreSlot_relay (s : State) : (s.scoreSlot).relay = s.relay := rfl
@[simp] theorem State.scoreSlot_holds (s : State) : (s.scoreSlot).holds = s.holds := rfl
@[simp] theorem State.scoreSlot_board (s : State) : (s.scoreSlot).board = s.board := rfl
@[simp] theorem State.scoreSlot_discrete (s : State) : (s.scoreSlot).discrete = s.discrete := rfl
@[simp] theorem State.scoreSlot_link (s : State) : (s.scoreSlot).link = s.link := rfl

@[simp] theorem State.monitorTake_pending (f : RxFrame) (s : State) : (s.monitorTake f).pending = s.pending := rfl
@[simp] theorem State.monitorTake_now (f : RxFrame) (s : State) : (s.monitorTake f).now = s.now := rfl
@[simp] theorem State.monitorTake_startup (f : RxFrame) (s : State) : (s.monitorTake f).startup = s.startup := rfl
@[simp] theorem State.monitorTake_liu (f : RxFrame) (s : State) : (s.monitorTake f).liu = s.liu := rfl
@[simp] theorem State.monitorTake_record (f : RxFrame) (s : State) : (s.monitorTake f).record = s.record := rfl
@[simp] theorem State.monitorTake_envelope (f : RxFrame) (s : State) : (s.monitorTake f).envelope = s.envelope := rfl
@[simp] theorem State.monitorTake_relay (f : RxFrame) (s : State) : (s.monitorTake f).relay = s.relay := rfl
@[simp] theorem State.monitorTake_holds (f : RxFrame) (s : State) : (s.monitorTake f).holds = s.holds := rfl
@[simp] theorem State.monitorTake_board (f : RxFrame) (s : State) : (s.monitorTake f).board = s.board := rfl
@[simp] theorem State.monitorTake_discrete (f : RxFrame) (s : State) : (s.monitorTake f).discrete = s.discrete := rfl
@[simp] theorem State.monitorTake_link (f : RxFrame) (s : State) : (s.monitorTake f).link = s.link := rfl

@[simp] theorem State.monitorGrant_pending (m : Option Mode) (s : State) : (s.monitorGrant m).pending = s.pending := rfl
@[simp] theorem State.monitorGrant_now (m : Option Mode) (s : State) : (s.monitorGrant m).now = s.now := rfl
@[simp] theorem State.monitorGrant_startup (m : Option Mode) (s : State) : (s.monitorGrant m).startup = s.startup := rfl
@[simp] theorem State.monitorGrant_liu (m : Option Mode) (s : State) : (s.monitorGrant m).liu = s.liu := rfl
@[simp] theorem State.monitorGrant_record (m : Option Mode) (s : State) : (s.monitorGrant m).record = s.record := rfl
@[simp] theorem State.monitorGrant_envelope (m : Option Mode) (s : State) : (s.monitorGrant m).envelope = s.envelope := rfl
@[simp] theorem State.monitorGrant_relay (m : Option Mode) (s : State) : (s.monitorGrant m).relay = s.relay := rfl
@[simp] theorem State.monitorGrant_holds (m : Option Mode) (s : State) : (s.monitorGrant m).holds = s.holds := rfl
@[simp] theorem State.monitorGrant_board (m : Option Mode) (s : State) : (s.monitorGrant m).board = s.board := rfl
@[simp] theorem State.monitorGrant_discrete (m : Option Mode) (s : State) : (s.monitorGrant m).discrete = s.discrete := rfl
@[simp] theorem State.monitorGrant_link (m : Option Mode) (s : State) : (s.monitorGrant m).link = s.link := rfl

@[simp] theorem State.discardMessage_pending (s : State) : (s.discardMessage).pending = s.pending := rfl
@[simp] theorem State.discardMessage_now (s : State) : (s.discardMessage).now = s.now := rfl
@[simp] theorem State.discardMessage_startup (s : State) : (s.discardMessage).startup = s.startup := rfl
@[simp] theorem State.discardMessage_liu (s : State) : (s.discardMessage).liu = s.liu := rfl
@[simp] theorem State.discardMessage_record (s : State) : (s.discardMessage).record = s.record := rfl
@[simp] theorem State.discardMessage_monitor (s : State) : (s.discardMessage).monitor = s.monitor := rfl
@[simp] theorem State.discardMessage_envelope (s : State) : (s.discardMessage).envelope = s.envelope := rfl
@[simp] theorem State.discardMessage_relay (s : State) : (s.discardMessage).relay = s.relay := rfl
@[simp] theorem State.discardMessage_holds (s : State) : (s.discardMessage).holds = s.holds := rfl
@[simp] theorem State.discardMessage_board (s : State) : (s.discardMessage).board = s.board := rfl
@[simp] theorem State.discardMessage_discrete (s : State) : (s.discardMessage).discrete = s.discrete := rfl

@[simp] theorem State.armGesture_pending (r : GestureRequest) (l : Nat) (s : State) : (s.armGesture r l).pending = s.pending := rfl
@[simp] theorem State.armGesture_now (r : GestureRequest) (l : Nat) (s : State) : (s.armGesture r l).now = s.now := rfl
@[simp] theorem State.armGesture_startup (r : GestureRequest) (l : Nat) (s : State) : (s.armGesture r l).startup = s.startup := rfl
@[simp] theorem State.armGesture_liu (r : GestureRequest) (l : Nat) (s : State) : (s.armGesture r l).liu = s.liu := rfl
@[simp] theorem State.armGesture_record (r : GestureRequest) (l : Nat) (s : State) : (s.armGesture r l).record = s.record := rfl
@[simp] theorem State.armGesture_monitor (r : GestureRequest) (l : Nat) (s : State) : (s.armGesture r l).monitor = s.monitor := rfl
@[simp] theorem State.armGesture_envelope (r : GestureRequest) (l : Nat) (s : State) : (s.armGesture r l).envelope = s.envelope := rfl
@[simp] theorem State.armGesture_relay (r : GestureRequest) (l : Nat) (s : State) : (s.armGesture r l).relay = s.relay := rfl
@[simp] theorem State.armGesture_holds (r : GestureRequest) (l : Nat) (s : State) : (s.armGesture r l).holds = s.holds := rfl
@[simp] theorem State.armGesture_discrete (r : GestureRequest) (l : Nat) (s : State) : (s.armGesture r l).discrete = s.discrete := rfl
@[simp] theorem State.armGesture_link (r : GestureRequest) (l : Nat) (s : State) : (s.armGesture r l).link = s.link := rfl

@[simp] theorem State.storeReport_pending (l : Nat) (f : RxFrame) (s : State) : (s.storeReport l f).pending = s.pending := rfl
@[simp] theorem State.storeReport_now (l : Nat) (f : RxFrame) (s : State) : (s.storeReport l f).now = s.now := rfl
@[simp] theorem State.storeReport_startup (l : Nat) (f : RxFrame) (s : State) : (s.storeReport l f).startup = s.startup := rfl
@[simp] theorem State.storeReport_liu (l : Nat) (f : RxFrame) (s : State) : (s.storeReport l f).liu = s.liu := rfl
@[simp] theorem State.storeReport_record (l : Nat) (f : RxFrame) (s : State) : (s.storeReport l f).record = s.record := rfl
@[simp] theorem State.storeReport_monitor (l : Nat) (f : RxFrame) (s : State) : (s.storeReport l f).monitor = s.monitor := rfl
@[simp] theorem State.storeReport_envelope (l : Nat) (f : RxFrame) (s : State) : (s.storeReport l f).envelope = s.envelope := rfl
@[simp] theorem State.storeReport_relay (l : Nat) (f : RxFrame) (s : State) : (s.storeReport l f).relay = s.relay := rfl
@[simp] theorem State.storeReport_board (l : Nat) (f : RxFrame) (s : State) : (s.storeReport l f).board = s.board := rfl
@[simp] theorem State.storeReport_discrete (l : Nat) (f : RxFrame) (s : State) : (s.storeReport l f).discrete = s.discrete := rfl
@[simp] theorem State.storeReport_link (l : Nat) (f : RxFrame) (s : State) : (s.storeReport l f).link = s.link := rfl

@[simp] theorem State.endOffer_pending (l : Nat) (c : ChairOffer) (s : State) : (s.endOffer l c).pending = s.pending := rfl
@[simp] theorem State.endOffer_now (l : Nat) (c : ChairOffer) (s : State) : (s.endOffer l c).now = s.now := rfl
@[simp] theorem State.endOffer_startup (l : Nat) (c : ChairOffer) (s : State) : (s.endOffer l c).startup = s.startup := rfl
@[simp] theorem State.endOffer_liu (l : Nat) (c : ChairOffer) (s : State) : (s.endOffer l c).liu = s.liu := rfl
@[simp] theorem State.endOffer_record (l : Nat) (c : ChairOffer) (s : State) : (s.endOffer l c).record = s.record := rfl
@[simp] theorem State.endOffer_monitor (l : Nat) (c : ChairOffer) (s : State) : (s.endOffer l c).monitor = s.monitor := rfl
@[simp] theorem State.endOffer_envelope (l : Nat) (c : ChairOffer) (s : State) : (s.endOffer l c).envelope = s.envelope := rfl
@[simp] theorem State.endOffer_relay (l : Nat) (c : ChairOffer) (s : State) : (s.endOffer l c).relay = s.relay := rfl
@[simp] theorem State.endOffer_board (l : Nat) (c : ChairOffer) (s : State) : (s.endOffer l c).board = s.board := rfl
@[simp] theorem State.endOffer_discrete (l : Nat) (c : ChairOffer) (s : State) : (s.endOffer l c).discrete = s.discrete := rfl
@[simp] theorem State.endOffer_link (l : Nat) (c : ChairOffer) (s : State) : (s.endOffer l c).link = s.link := rfl

@[simp] theorem State.outstandingSent_pending (ref : Nat) (s : State) : (s.outstandingSent ref).pending = s.pending := rfl
@[simp] theorem State.outstandingSent_now (ref : Nat) (s : State) : (s.outstandingSent ref).now = s.now := rfl
@[simp] theorem State.outstandingSent_startup (ref : Nat) (s : State) : (s.outstandingSent ref).startup = s.startup := rfl
@[simp] theorem State.outstandingSent_liu (ref : Nat) (s : State) : (s.outstandingSent ref).liu = s.liu := rfl
@[simp] theorem State.outstandingSent_record (ref : Nat) (s : State) : (s.outstandingSent ref).record = s.record := rfl
@[simp] theorem State.outstandingSent_monitor (ref : Nat) (s : State) : (s.outstandingSent ref).monitor = s.monitor := rfl
@[simp] theorem State.outstandingSent_envelope (ref : Nat) (s : State) : (s.outstandingSent ref).envelope = s.envelope := rfl
@[simp] theorem State.outstandingSent_relay (ref : Nat) (s : State) : (s.outstandingSent ref).relay = s.relay := rfl
@[simp] theorem State.outstandingSent_board (ref : Nat) (s : State) : (s.outstandingSent ref).board = s.board := rfl
@[simp] theorem State.outstandingSent_discrete (ref : Nat) (s : State) : (s.outstandingSent ref).discrete = s.discrete := rfl
@[simp] theorem State.outstandingSent_link (ref : Nat) (s : State) : (s.outstandingSent ref).link = s.link := rfl

@[simp] theorem State.offerSent_pending (ref : Nat) (s : State) : (s.offerSent ref).pending = s.pending := rfl
@[simp] theorem State.offerSent_now (ref : Nat) (s : State) : (s.offerSent ref).now = s.now := rfl
@[simp] theorem State.offerSent_startup (ref : Nat) (s : State) : (s.offerSent ref).startup = s.startup := rfl
@[simp] theorem State.offerSent_liu (ref : Nat) (s : State) : (s.offerSent ref).liu = s.liu := rfl
@[simp] theorem State.offerSent_record (ref : Nat) (s : State) : (s.offerSent ref).record = s.record := rfl
@[simp] theorem State.offerSent_monitor (ref : Nat) (s : State) : (s.offerSent ref).monitor = s.monitor := rfl
@[simp] theorem State.offerSent_envelope (ref : Nat) (s : State) : (s.offerSent ref).envelope = s.envelope := rfl
@[simp] theorem State.offerSent_relay (ref : Nat) (s : State) : (s.offerSent ref).relay = s.relay := rfl
@[simp] theorem State.offerSent_board (ref : Nat) (s : State) : (s.offerSent ref).board = s.board := rfl
@[simp] theorem State.offerSent_discrete (ref : Nat) (s : State) : (s.offerSent ref).discrete = s.discrete := rfl
@[simp] theorem State.offerSent_link (ref : Nat) (s : State) : (s.offerSent ref).link = s.link := rfl

/-! ### Operations with branches -/

@[simp] theorem State.give_pending (f : TxFrame) (s : State) : (s.give f).pending = s.pending := by
  unfold State.give; split
  · split <;> rfl
  · rfl
@[simp] theorem State.give_now (f : TxFrame) (s : State) : (s.give f).now = s.now := by
  unfold State.give; split
  · split <;> rfl
  · rfl
@[simp] theorem State.give_startup (f : TxFrame) (s : State) : (s.give f).startup = s.startup := by
  unfold State.give; split
  · split <;> rfl
  · rfl
@[simp] theorem State.give_record (f : TxFrame) (s : State) : (s.give f).record = s.record := by
  unfold State.give; split
  · split <;> rfl
  · rfl
@[simp] theorem State.give_monitor (f : TxFrame) (s : State) : (s.give f).monitor = s.monitor := by
  unfold State.give; split
  · split <;> rfl
  · rfl
@[simp] theorem State.give_envelope (f : TxFrame) (s : State) : (s.give f).envelope = s.envelope := by
  unfold State.give; split
  · split <;> rfl
  · rfl
@[simp] theorem State.give_relay (f : TxFrame) (s : State) : (s.give f).relay = s.relay := by
  unfold State.give; split
  · split <;> rfl
  · rfl
@[simp] theorem State.give_holds (f : TxFrame) (s : State) : (s.give f).holds = s.holds := by
  unfold State.give; split
  · split <;> rfl
  · rfl
@[simp] theorem State.give_board (f : TxFrame) (s : State) : (s.give f).board = s.board := by
  unfold State.give; split
  · split <;> rfl
  · rfl
@[simp] theorem State.give_discrete (f : TxFrame) (s : State) : (s.give f).discrete = s.discrete := by
  unfold State.give; split
  · split <;> rfl
  · rfl

@[simp] theorem State.respond_pending (kind tag : Byte) (a : Answer) (s : State) : (s.respond kind tag a).pending = s.pending := by
  unfold State.respond; split <;> rfl
@[simp] theorem State.respond_now (kind tag : Byte) (a : Answer) (s : State) : (s.respond kind tag a).now = s.now := by
  unfold State.respond; split <;> rfl
@[simp] theorem State.respond_startup (kind tag : Byte) (a : Answer) (s : State) : (s.respond kind tag a).startup = s.startup := by
  unfold State.respond; split <;> rfl
@[simp] theorem State.respond_liu (kind tag : Byte) (a : Answer) (s : State) : (s.respond kind tag a).liu = s.liu := by
  unfold State.respond; split <;> rfl
@[simp] theorem State.respond_record (kind tag : Byte) (a : Answer) (s : State) : (s.respond kind tag a).record = s.record := by
  unfold State.respond; split <;> rfl
@[simp] theorem State.respond_monitor (kind tag : Byte) (a : Answer) (s : State) : (s.respond kind tag a).monitor = s.monitor := by
  unfold State.respond; split <;> rfl
@[simp] theorem State.respond_envelope (kind tag : Byte) (a : Answer) (s : State) : (s.respond kind tag a).envelope = s.envelope := by
  unfold State.respond; split <;> rfl
@[simp] theorem State.respond_relay (kind tag : Byte) (a : Answer) (s : State) : (s.respond kind tag a).relay = s.relay := by
  unfold State.respond; split <;> rfl
@[simp] theorem State.respond_holds (kind tag : Byte) (a : Answer) (s : State) : (s.respond kind tag a).holds = s.holds := by
  unfold State.respond; split <;> rfl
@[simp] theorem State.respond_board (kind tag : Byte) (a : Answer) (s : State) : (s.respond kind tag a).board = s.board := by
  unfold State.respond; split <;> rfl
@[simp] theorem State.respond_discrete (kind tag : Byte) (a : Answer) (s : State) : (s.respond kind tag a).discrete = s.discrete := by
  unfold State.respond; split <;> rfl

@[simp] theorem State.answerBusy_pending (kind tag : Byte) (s : State) : (s.answerBusy kind tag).pending = s.pending := by
  unfold State.answerBusy; split <;> rfl
@[simp] theorem State.answerBusy_now (kind tag : Byte) (s : State) : (s.answerBusy kind tag).now = s.now := by
  unfold State.answerBusy; split <;> rfl
@[simp] theorem State.answerBusy_startup (kind tag : Byte) (s : State) : (s.answerBusy kind tag).startup = s.startup := by
  unfold State.answerBusy; split <;> rfl
@[simp] theorem State.answerBusy_liu (kind tag : Byte) (s : State) : (s.answerBusy kind tag).liu = s.liu := by
  unfold State.answerBusy; split <;> rfl
@[simp] theorem State.answerBusy_record (kind tag : Byte) (s : State) : (s.answerBusy kind tag).record = s.record := by
  unfold State.answerBusy; split <;> rfl
@[simp] theorem State.answerBusy_monitor (kind tag : Byte) (s : State) : (s.answerBusy kind tag).monitor = s.monitor := by
  unfold State.answerBusy; split <;> rfl
@[simp] theorem State.answerBusy_envelope (kind tag : Byte) (s : State) : (s.answerBusy kind tag).envelope = s.envelope := by
  unfold State.answerBusy; split <;> rfl
@[simp] theorem State.answerBusy_relay (kind tag : Byte) (s : State) : (s.answerBusy kind tag).relay = s.relay := by
  unfold State.answerBusy; split <;> rfl
@[simp] theorem State.answerBusy_holds (kind tag : Byte) (s : State) : (s.answerBusy kind tag).holds = s.holds := by
  unfold State.answerBusy; split <;> rfl
@[simp] theorem State.answerBusy_board (kind tag : Byte) (s : State) : (s.answerBusy kind tag).board = s.board := by
  unfold State.answerBusy; split <;> rfl
@[simp] theorem State.answerBusy_discrete (kind tag : Byte) (s : State) : (s.answerBusy kind tag).discrete = s.discrete := by
  unfold State.answerBusy; split <;> rfl

@[simp] theorem State.relayLowered_pending (b : State) (s : State) : (s.relayLowered b).pending = s.pending := by
  unfold State.relayLowered; split
  · rfl
  · split <;> simp
@[simp] theorem State.relayLowered_now (b : State) (s : State) : (s.relayLowered b).now = s.now := by
  unfold State.relayLowered; split
  · rfl
  · split <;> simp
@[simp] theorem State.relayLowered_startup (b : State) (s : State) : (s.relayLowered b).startup = s.startup := by
  unfold State.relayLowered; split
  · rfl
  · split <;> simp
@[simp] theorem State.relayLowered_liu (b : State) (s : State) : (s.relayLowered b).liu = s.liu := by
  unfold State.relayLowered; split
  · rfl
  · split <;> simp
@[simp] theorem State.relayLowered_record (b : State) (s : State) : (s.relayLowered b).record = s.record := by
  unfold State.relayLowered; split
  · rfl
  · split <;> simp
@[simp] theorem State.relayLowered_monitor (b : State) (s : State) : (s.relayLowered b).monitor = s.monitor := by
  unfold State.relayLowered; split
  · rfl
  · split <;> simp
@[simp] theorem State.relayLowered_envelope (b : State) (s : State) : (s.relayLowered b).envelope = s.envelope := by
  unfold State.relayLowered; split
  · rfl
  · split <;> simp
@[simp] theorem State.relayLowered_holds (b : State) (s : State) : (s.relayLowered b).holds = s.holds := by
  unfold State.relayLowered; split
  · rfl
  · split <;> simp
@[simp] theorem State.relayLowered_board (b : State) (s : State) : (s.relayLowered b).board = s.board := by
  unfold State.relayLowered; split
  · rfl
  · split <;> simp
@[simp] theorem State.relayLowered_discrete (b : State) (s : State) : (s.relayLowered b).discrete = s.discrete := by
  unfold State.relayLowered; split
  · rfl
  · split <;> simp

@[simp] theorem State.relayInterval_pending (s : State) : (s.relayInterval).pending = s.pending := by
  unfold State.relayInterval; simp only []; split
  · split <;> simp
  · simp
@[simp] theorem State.relayInterval_now (s : State) : (s.relayInterval).now = s.now := by
  unfold State.relayInterval; simp only []; split
  · split <;> simp
  · simp
@[simp] theorem State.relayInterval_startup (s : State) : (s.relayInterval).startup = s.startup := by
  unfold State.relayInterval; simp only []; split
  · split <;> simp
  · simp
@[simp] theorem State.relayInterval_liu (s : State) : (s.relayInterval).liu = s.liu := by
  unfold State.relayInterval; simp only []; split
  · split <;> simp
  · simp
@[simp] theorem State.relayInterval_record (s : State) : (s.relayInterval).record = s.record := by
  unfold State.relayInterval; simp only []; split
  · split <;> simp
  · simp
@[simp] theorem State.relayInterval_monitor (s : State) : (s.relayInterval).monitor = s.monitor := by
  unfold State.relayInterval; simp only []; split
  · split <;> simp
  · simp
@[simp] theorem State.relayInterval_envelope (s : State) : (s.relayInterval).envelope = s.envelope := by
  unfold State.relayInterval; simp only []; split
  · split <;> simp
  · simp
@[simp] theorem State.relayInterval_holds (s : State) : (s.relayInterval).holds = s.holds := by
  unfold State.relayInterval; simp only []; split
  · split <;> simp
  · simp
@[simp] theorem State.relayInterval_board (s : State) : (s.relayInterval).board = s.board := by
  unfold State.relayInterval; simp only []; split
  · split <;> simp
  · simp
@[simp] theorem State.relayInterval_discrete (s : State) : (s.relayInterval).discrete = s.discrete := by
  unfold State.relayInterval; simp only []; split
  · split <;> simp
  · simp

@[simp] theorem State.giveZeroed_pending (s : State) : (s.giveZeroed).pending = s.pending := rfl
@[simp] theorem State.giveZeroed_now (s : State) : (s.giveZeroed).now = s.now := rfl
@[simp] theorem State.giveZeroed_startup (s : State) : (s.giveZeroed).startup = s.startup := rfl
@[simp] theorem State.giveZeroed_liu (s : State) : (s.giveZeroed).liu = s.liu := rfl
@[simp] theorem State.giveZeroed_record (s : State) : (s.giveZeroed).record = s.record := rfl
@[simp] theorem State.giveZeroed_monitor (s : State) : (s.giveZeroed).monitor = s.monitor := rfl
@[simp] theorem State.giveZeroed_envelope (s : State) : (s.giveZeroed).envelope = s.envelope := rfl
@[simp] theorem State.giveZeroed_holds (s : State) : (s.giveZeroed).holds = s.holds := rfl
@[simp] theorem State.giveZeroed_board (s : State) : (s.giveZeroed).board = s.board := rfl
@[simp] theorem State.giveZeroed_discrete (s : State) : (s.giveZeroed).discrete = s.discrete := rfl

@[simp] theorem State.relayTake_pending (f : RxFrame) (s : State) : (s.relayTake f).pending = s.pending := rfl
@[simp] theorem State.relayTake_now (f : RxFrame) (s : State) : (s.relayTake f).now = s.now := rfl
@[simp] theorem State.relayTake_startup (f : RxFrame) (s : State) : (s.relayTake f).startup = s.startup := rfl
@[simp] theorem State.relayTake_liu (f : RxFrame) (s : State) : (s.relayTake f).liu = s.liu := rfl
@[simp] theorem State.relayTake_record (f : RxFrame) (s : State) : (s.relayTake f).record = s.record := rfl
@[simp] theorem State.relayTake_monitor (f : RxFrame) (s : State) : (s.relayTake f).monitor = s.monitor := rfl
@[simp] theorem State.relayTake_envelope (f : RxFrame) (s : State) : (s.relayTake f).envelope = s.envelope := rfl
@[simp] theorem State.relayTake_holds (f : RxFrame) (s : State) : (s.relayTake f).holds = s.holds := rfl
@[simp] theorem State.relayTake_board (f : RxFrame) (s : State) : (s.relayTake f).board = s.board := rfl
@[simp] theorem State.relayTake_discrete (f : RxFrame) (s : State) : (s.relayTake f).discrete = s.discrete := rfl

@[simp] theorem State.relayGrant_pending (m : Option Mode) (s : State) : (s.relayGrant m).pending = s.pending := rfl
@[simp] theorem State.relayGrant_now (m : Option Mode) (s : State) : (s.relayGrant m).now = s.now := rfl
@[simp] theorem State.relayGrant_startup (m : Option Mode) (s : State) : (s.relayGrant m).startup = s.startup := rfl
@[simp] theorem State.relayGrant_liu (m : Option Mode) (s : State) : (s.relayGrant m).liu = s.liu := rfl
@[simp] theorem State.relayGrant_record (m : Option Mode) (s : State) : (s.relayGrant m).record = s.record := rfl
@[simp] theorem State.relayGrant_monitor (m : Option Mode) (s : State) : (s.relayGrant m).monitor = s.monitor := rfl
@[simp] theorem State.relayGrant_envelope (m : Option Mode) (s : State) : (s.relayGrant m).envelope = s.envelope := rfl
@[simp] theorem State.relayGrant_holds (m : Option Mode) (s : State) : (s.relayGrant m).holds = s.holds := rfl
@[simp] theorem State.relayGrant_board (m : Option Mode) (s : State) : (s.relayGrant m).board = s.board := rfl
@[simp] theorem State.relayGrant_discrete (m : Option Mode) (s : State) : (s.relayGrant m).discrete = s.discrete := rfl

@[simp] theorem State.sendStatus_pending (s : State) : (s.sendStatus).pending = s.pending := by
  simp [State.sendStatus]
@[simp] theorem State.sendStatus_now (s : State) : (s.sendStatus).now = s.now := by
  simp [State.sendStatus]
@[simp] theorem State.sendStatus_startup (s : State) : (s.sendStatus).startup = s.startup := by
  simp [State.sendStatus]
@[simp] theorem State.sendStatus_record (s : State) : (s.sendStatus).record = s.record := by
  simp [State.sendStatus]
@[simp] theorem State.sendStatus_monitor (s : State) : (s.sendStatus).monitor = s.monitor := by
  simp [State.sendStatus]
@[simp] theorem State.sendStatus_envelope (s : State) : (s.sendStatus).envelope = s.envelope := by
  simp [State.sendStatus]
@[simp] theorem State.sendStatus_relay (s : State) : (s.sendStatus).relay = s.relay := by
  simp [State.sendStatus]
@[simp] theorem State.sendStatus_holds (s : State) : (s.sendStatus).holds = s.holds := by
  simp [State.sendStatus]
@[simp] theorem State.sendStatus_board (s : State) : (s.sendStatus).board = s.board := by
  simp [State.sendStatus]
@[simp] theorem State.sendStatus_discrete (s : State) : (s.sendStatus).discrete = s.discrete := by
  simp [State.sendStatus]

@[simp] theorem State.sendGrant_pending (g : Grant) (s : State) : (s.sendGrant g).pending = s.pending := by
  simp [State.sendGrant]
@[simp] theorem State.sendGrant_now (g : Grant) (s : State) : (s.sendGrant g).now = s.now := by
  simp [State.sendGrant]
@[simp] theorem State.sendGrant_startup (g : Grant) (s : State) : (s.sendGrant g).startup = s.startup := by
  simp [State.sendGrant]
@[simp] theorem State.sendGrant_record (g : Grant) (s : State) : (s.sendGrant g).record = s.record := by
  simp [State.sendGrant]
@[simp] theorem State.sendGrant_monitor (g : Grant) (s : State) : (s.sendGrant g).monitor = s.monitor := by
  simp [State.sendGrant]
@[simp] theorem State.sendGrant_envelope (g : Grant) (s : State) : (s.sendGrant g).envelope = s.envelope := by
  simp [State.sendGrant]
@[simp] theorem State.sendGrant_relay (g : Grant) (s : State) : (s.sendGrant g).relay = s.relay := by
  simp [State.sendGrant]
@[simp] theorem State.sendGrant_holds (g : Grant) (s : State) : (s.sendGrant g).holds = s.holds := by
  simp [State.sendGrant]
@[simp] theorem State.sendGrant_board (g : Grant) (s : State) : (s.sendGrant g).board = s.board := by
  simp [State.sendGrant]
@[simp] theorem State.sendGrant_discrete (g : Grant) (s : State) : (s.sendGrant g).discrete = s.discrete := by
  simp [State.sendGrant]

@[simp] theorem State.refuse_pending (r : RefuseReason) (f : RxFrame) (s : State) : (s.refuse r f).pending = s.pending := by
  simp [State.refuse]
@[simp] theorem State.refuse_now (r : RefuseReason) (f : RxFrame) (s : State) : (s.refuse r f).now = s.now := by
  simp [State.refuse]
@[simp] theorem State.refuse_startup (r : RefuseReason) (f : RxFrame) (s : State) : (s.refuse r f).startup = s.startup := by
  simp [State.refuse]
@[simp] theorem State.refuse_record (r : RefuseReason) (f : RxFrame) (s : State) : (s.refuse r f).record = s.record := by
  simp [State.refuse]
@[simp] theorem State.refuse_monitor (r : RefuseReason) (f : RxFrame) (s : State) : (s.refuse r f).monitor = s.monitor := by
  simp [State.refuse]
@[simp] theorem State.refuse_envelope (r : RefuseReason) (f : RxFrame) (s : State) : (s.refuse r f).envelope = s.envelope := by
  simp [State.refuse]
@[simp] theorem State.refuse_relay (r : RefuseReason) (f : RxFrame) (s : State) : (s.refuse r f).relay = s.relay := by
  simp [State.refuse]
@[simp] theorem State.refuse_holds (r : RefuseReason) (f : RxFrame) (s : State) : (s.refuse r f).holds = s.holds := by
  simp [State.refuse]
@[simp] theorem State.refuse_board (r : RefuseReason) (f : RxFrame) (s : State) : (s.refuse r f).board = s.board := by
  simp [State.refuse]
@[simp] theorem State.refuse_discrete (r : RefuseReason) (f : RxFrame) (s : State) : (s.refuse r f).discrete = s.discrete := by
  simp [State.refuse]

@[simp] theorem State.postState_pending (s : State) : (s.postState).pending = s.pending := by
  simp [State.postState]
@[simp] theorem State.postState_now (s : State) : (s.postState).now = s.now := by
  simp [State.postState]
@[simp] theorem State.postState_startup (s : State) : (s.postState).startup = s.startup := by
  simp [State.postState]
@[simp] theorem State.postState_liu (s : State) : (s.postState).liu = s.liu := by
  simp [State.postState]
@[simp] theorem State.postState_record (s : State) : (s.postState).record = s.record := by
  simp [State.postState]
@[simp] theorem State.postState_monitor (s : State) : (s.postState).monitor = s.monitor := by
  simp [State.postState]
@[simp] theorem State.postState_envelope (s : State) : (s.postState).envelope = s.envelope := by
  simp [State.postState]
@[simp] theorem State.postState_relay (s : State) : (s.postState).relay = s.relay := by
  simp [State.postState]
@[simp] theorem State.postState_holds (s : State) : (s.postState).holds = s.holds := by
  simp [State.postState]
@[simp] theorem State.postState_board (s : State) : (s.postState).board = s.board := by
  simp [State.postState]
@[simp] theorem State.postState_discrete (s : State) : (s.postState).discrete = s.discrete := by
  simp [State.postState]

@[simp] theorem State.announce_pending (s : State) : (s.announce).pending = s.pending := by
  simp [State.announce]
@[simp] theorem State.announce_now (s : State) : (s.announce).now = s.now := by
  simp [State.announce]
@[simp] theorem State.announce_startup (s : State) : (s.announce).startup = s.startup := by
  simp [State.announce]
@[simp] theorem State.announce_record (s : State) : (s.announce).record = s.record := by
  simp [State.announce]
@[simp] theorem State.announce_monitor (s : State) : (s.announce).monitor = s.monitor := by
  simp [State.announce]
@[simp] theorem State.announce_envelope (s : State) : (s.announce).envelope = s.envelope := by
  simp [State.announce]
@[simp] theorem State.announce_relay (s : State) : (s.announce).relay = s.relay := by
  simp [State.announce]
@[simp] theorem State.announce_holds (s : State) : (s.announce).holds = s.holds := by
  simp [State.announce]
@[simp] theorem State.announce_board (s : State) : (s.announce).board = s.board := by
  simp [State.announce]
@[simp] theorem State.announce_discrete (s : State) : (s.announce).discrete = s.discrete := by
  simp [State.announce]

@[simp] theorem State.callAssist_pending (h : Half) (s : State) : (s.callAssist h).pending = s.pending := by
  simp [State.callAssist]
@[simp] theorem State.callAssist_now (h : Half) (s : State) : (s.callAssist h).now = s.now := by
  simp [State.callAssist]
@[simp] theorem State.callAssist_startup (h : Half) (s : State) : (s.callAssist h).startup = s.startup := by
  simp [State.callAssist]
@[simp] theorem State.callAssist_record (h : Half) (s : State) : (s.callAssist h).record = s.record := by
  simp [State.callAssist]
@[simp] theorem State.callAssist_monitor (h : Half) (s : State) : (s.callAssist h).monitor = s.monitor := by
  simp [State.callAssist]
@[simp] theorem State.callAssist_envelope (h : Half) (s : State) : (s.callAssist h).envelope = s.envelope := by
  simp [State.callAssist]
@[simp] theorem State.callAssist_relay (h : Half) (s : State) : (s.callAssist h).relay = s.relay := by
  simp [State.callAssist]
@[simp] theorem State.callAssist_holds (h : Half) (s : State) : (s.callAssist h).holds = s.holds := by
  simp [State.callAssist]
@[simp] theorem State.callAssist_board (h : Half) (s : State) : (s.callAssist h).board = s.board := by
  simp [State.callAssist]
@[simp] theorem State.callAssist_discrete (h : Half) (s : State) : (s.callAssist h).discrete = s.discrete := by
  simp [State.callAssist]

@[simp] theorem State.tell_pending (n : Notice) (s : State) : (s.tell n).pending = s.pending := by
  unfold State.tell; split <;> simp
@[simp] theorem State.tell_now (n : Notice) (s : State) : (s.tell n).now = s.now := by
  unfold State.tell; split <;> simp
@[simp] theorem State.tell_startup (n : Notice) (s : State) : (s.tell n).startup = s.startup := by
  unfold State.tell; split <;> simp
@[simp] theorem State.tell_liu (n : Notice) (s : State) : (s.tell n).liu = s.liu := by
  unfold State.tell; split <;> simp
@[simp] theorem State.tell_record (n : Notice) (s : State) : (s.tell n).record = s.record := by
  unfold State.tell; split <;> simp
@[simp] theorem State.tell_monitor (n : Notice) (s : State) : (s.tell n).monitor = s.monitor := by
  unfold State.tell; split <;> simp
@[simp] theorem State.tell_envelope (n : Notice) (s : State) : (s.tell n).envelope = s.envelope := by
  unfold State.tell; split <;> simp
@[simp] theorem State.tell_relay (n : Notice) (s : State) : (s.tell n).relay = s.relay := by
  unfold State.tell; split <;> simp
@[simp] theorem State.tell_holds (n : Notice) (s : State) : (s.tell n).holds = s.holds := by
  unfold State.tell; split <;> simp
@[simp] theorem State.tell_board (n : Notice) (s : State) : (s.tell n).board = s.board := by
  unfold State.tell; split <;> simp
@[simp] theorem State.tell_discrete (n : Notice) (s : State) : (s.tell n).discrete = s.discrete := by
  unfold State.tell; split <;> simp

@[simp] theorem State.failGesture_pending (c : GestureCause) (s : State) : (s.failGesture c).pending = s.pending := by
  unfold State.failGesture; split <;> simp
@[simp] theorem State.failGesture_now (c : GestureCause) (s : State) : (s.failGesture c).now = s.now := by
  unfold State.failGesture; split <;> simp
@[simp] theorem State.failGesture_startup (c : GestureCause) (s : State) : (s.failGesture c).startup = s.startup := by
  unfold State.failGesture; split <;> simp
@[simp] theorem State.failGesture_liu (c : GestureCause) (s : State) : (s.failGesture c).liu = s.liu := by
  unfold State.failGesture; split <;> simp
@[simp] theorem State.failGesture_record (c : GestureCause) (s : State) : (s.failGesture c).record = s.record := by
  unfold State.failGesture; split <;> simp
@[simp] theorem State.failGesture_monitor (c : GestureCause) (s : State) : (s.failGesture c).monitor = s.monitor := by
  unfold State.failGesture; split <;> simp
@[simp] theorem State.failGesture_envelope (c : GestureCause) (s : State) : (s.failGesture c).envelope = s.envelope := by
  unfold State.failGesture; split <;> simp
@[simp] theorem State.failGesture_relay (c : GestureCause) (s : State) : (s.failGesture c).relay = s.relay := by
  unfold State.failGesture; split <;> simp
@[simp] theorem State.failGesture_holds (c : GestureCause) (s : State) : (s.failGesture c).holds = s.holds := by
  unfold State.failGesture; split <;> simp
@[simp] theorem State.failGesture_discrete (c : GestureCause) (s : State) : (s.failGesture c).discrete = s.discrete := by
  unfold State.failGesture; split <;> simp

@[simp] theorem State.announceItem_pending (i : Item) (s : State) : (s.announceItem i).pending = s.pending := by
  simp [State.announceItem]
@[simp] theorem State.announceItem_now (i : Item) (s : State) : (s.announceItem i).now = s.now := by
  simp [State.announceItem]
@[simp] theorem State.announceItem_startup (i : Item) (s : State) : (s.announceItem i).startup = s.startup := by
  simp [State.announceItem]
@[simp] theorem State.announceItem_liu (i : Item) (s : State) : (s.announceItem i).liu = s.liu := by
  simp [State.announceItem]
@[simp] theorem State.announceItem_record (i : Item) (s : State) : (s.announceItem i).record = s.record := by
  simp [State.announceItem]
@[simp] theorem State.announceItem_monitor (i : Item) (s : State) : (s.announceItem i).monitor = s.monitor := by
  simp [State.announceItem]
@[simp] theorem State.announceItem_envelope (i : Item) (s : State) : (s.announceItem i).envelope = s.envelope := by
  simp [State.announceItem]
@[simp] theorem State.announceItem_relay (i : Item) (s : State) : (s.announceItem i).relay = s.relay := by
  simp [State.announceItem]
@[simp] theorem State.announceItem_holds (i : Item) (s : State) : (s.announceItem i).holds = s.holds := by
  simp [State.announceItem]
@[simp] theorem State.announceItem_board (i : Item) (s : State) : (s.announceItem i).board = s.board := by
  simp [State.announceItem]
@[simp] theorem State.announceItem_discrete (i : Item) (s : State) : (s.announceItem i).discrete = s.discrete := by
  simp [State.announceItem]

@[simp] theorem State.giveOut_pending (l : Nat) (out : Outstanding) (s : State) : (s.giveOut l out).pending = s.pending := by
  simp [State.giveOut]
@[simp] theorem State.giveOut_now (l : Nat) (out : Outstanding) (s : State) : (s.giveOut l out).now = s.now := by
  simp [State.giveOut]
@[simp] theorem State.giveOut_startup (l : Nat) (out : Outstanding) (s : State) : (s.giveOut l out).startup = s.startup := by
  simp [State.giveOut]
@[simp] theorem State.giveOut_record (l : Nat) (out : Outstanding) (s : State) : (s.giveOut l out).record = s.record := by
  simp [State.giveOut]
@[simp] theorem State.giveOut_monitor (l : Nat) (out : Outstanding) (s : State) : (s.giveOut l out).monitor = s.monitor := by
  simp [State.giveOut]
@[simp] theorem State.giveOut_envelope (l : Nat) (out : Outstanding) (s : State) : (s.giveOut l out).envelope = s.envelope := by
  simp [State.giveOut]
@[simp] theorem State.giveOut_relay (l : Nat) (out : Outstanding) (s : State) : (s.giveOut l out).relay = s.relay := by
  simp [State.giveOut]
@[simp] theorem State.giveOut_board (l : Nat) (out : Outstanding) (s : State) : (s.giveOut l out).board = s.board := by
  simp [State.giveOut]
@[simp] theorem State.giveOut_discrete (l : Nat) (out : Outstanding) (s : State) : (s.giveOut l out).discrete = s.discrete := by
  simp [State.giveOut]

@[simp] theorem State.giveSupervise_pending (l : Nat) (s : State) : (s.giveSupervise l).pending = s.pending := by
  unfold State.giveSupervise; split
  · rfl
  · split <;> simp
@[simp] theorem State.giveSupervise_now (l : Nat) (s : State) : (s.giveSupervise l).now = s.now := by
  unfold State.giveSupervise; split
  · rfl
  · split <;> simp
@[simp] theorem State.giveSupervise_startup (l : Nat) (s : State) : (s.giveSupervise l).startup = s.startup := by
  unfold State.giveSupervise; split
  · rfl
  · split <;> simp
@[simp] theorem State.giveSupervise_record (l : Nat) (s : State) : (s.giveSupervise l).record = s.record := by
  unfold State.giveSupervise; split
  · rfl
  · split <;> simp
@[simp] theorem State.giveSupervise_monitor (l : Nat) (s : State) : (s.giveSupervise l).monitor = s.monitor := by
  unfold State.giveSupervise; split
  · rfl
  · split <;> simp
@[simp] theorem State.giveSupervise_envelope (l : Nat) (s : State) : (s.giveSupervise l).envelope = s.envelope := by
  unfold State.giveSupervise; split
  · rfl
  · split <;> simp
@[simp] theorem State.giveSupervise_relay (l : Nat) (s : State) : (s.giveSupervise l).relay = s.relay := by
  unfold State.giveSupervise; split
  · rfl
  · split <;> simp
@[simp] theorem State.giveSupervise_board (l : Nat) (s : State) : (s.giveSupervise l).board = s.board := by
  unfold State.giveSupervise; split
  · rfl
  · split <;> simp
@[simp] theorem State.giveSupervise_discrete (l : Nat) (s : State) : (s.giveSupervise l).discrete = s.discrete := by
  unfold State.giveSupervise; split
  · rfl
  · split <;> simp

@[simp] theorem State.settlePosture_pending (s : State) : (s.settlePosture).pending = s.pending := by
  unfold State.settlePosture; split <;> simp
@[simp] theorem State.settlePosture_now (s : State) : (s.settlePosture).now = s.now := by
  unfold State.settlePosture; split <;> simp
@[simp] theorem State.settlePosture_startup (s : State) : (s.settlePosture).startup = s.startup := by
  unfold State.settlePosture; split <;> simp
@[simp] theorem State.settlePosture_liu (s : State) : (s.settlePosture).liu = s.liu := by
  unfold State.settlePosture; split <;> simp
@[simp] theorem State.settlePosture_record (s : State) : (s.settlePosture).record = s.record := by
  unfold State.settlePosture; split <;> simp
@[simp] theorem State.settlePosture_monitor (s : State) : (s.settlePosture).monitor = s.monitor := by
  unfold State.settlePosture; split <;> simp
@[simp] theorem State.settlePosture_envelope (s : State) : (s.settlePosture).envelope = s.envelope := by
  unfold State.settlePosture; split <;> simp
@[simp] theorem State.settlePosture_relay (s : State) : (s.settlePosture).relay = s.relay := by
  unfold State.settlePosture; split <;> simp
@[simp] theorem State.settlePosture_board (s : State) : (s.settlePosture).board = s.board := by
  unfold State.settlePosture; split <;> simp
@[simp] theorem State.settlePosture_discrete (s : State) : (s.settlePosture).discrete = s.discrete := by
  unfold State.settlePosture; split <;> simp

@[simp] theorem State.leave_pending (l : Nat) (n : Notice) (s : State) : (s.leave l n).pending = s.pending := by
  simp [State.leave]
@[simp] theorem State.leave_now (l : Nat) (n : Notice) (s : State) : (s.leave l n).now = s.now := by
  simp [State.leave]
@[simp] theorem State.leave_startup (l : Nat) (n : Notice) (s : State) : (s.leave l n).startup = s.startup := by
  simp [State.leave]
@[simp] theorem State.leave_liu (l : Nat) (n : Notice) (s : State) : (s.leave l n).liu = s.liu := by
  simp [State.leave]
@[simp] theorem State.leave_record (l : Nat) (n : Notice) (s : State) : (s.leave l n).record = s.record := by
  simp [State.leave]
@[simp] theorem State.leave_monitor (l : Nat) (n : Notice) (s : State) : (s.leave l n).monitor = s.monitor := by
  simp [State.leave]
@[simp] theorem State.leave_envelope (l : Nat) (n : Notice) (s : State) : (s.leave l n).envelope = s.envelope := by
  simp [State.leave]
@[simp] theorem State.leave_relay (l : Nat) (n : Notice) (s : State) : (s.leave l n).relay = s.relay := by
  simp [State.leave]
@[simp] theorem State.leave_board (l : Nat) (n : Notice) (s : State) : (s.leave l n).board = s.board := by
  simp [State.leave]
@[simp] theorem State.leave_discrete (l : Nat) (n : Notice) (s : State) : (s.leave l n).discrete = s.discrete := by
  simp [State.leave]

@[simp] theorem State.acquired_pending (l : Nat) (m : Mode) (e : Epoch) (k : FrameKind) (c : Bool) (s : State) : (s.acquired l m e k c).pending = s.pending := by
  simp [State.acquired]
@[simp] theorem State.acquired_now (l : Nat) (m : Mode) (e : Epoch) (k : FrameKind) (c : Bool) (s : State) : (s.acquired l m e k c).now = s.now := by
  simp [State.acquired]
@[simp] theorem State.acquired_startup (l : Nat) (m : Mode) (e : Epoch) (k : FrameKind) (c : Bool) (s : State) : (s.acquired l m e k c).startup = s.startup := by
  simp [State.acquired]
@[simp] theorem State.acquired_record (l : Nat) (m : Mode) (e : Epoch) (k : FrameKind) (c : Bool) (s : State) : (s.acquired l m e k c).record = s.record := by
  simp [State.acquired]
@[simp] theorem State.acquired_monitor (l : Nat) (m : Mode) (e : Epoch) (k : FrameKind) (c : Bool) (s : State) : (s.acquired l m e k c).monitor = s.monitor := by
  simp [State.acquired]
@[simp] theorem State.acquired_envelope (l : Nat) (m : Mode) (e : Epoch) (k : FrameKind) (c : Bool) (s : State) : (s.acquired l m e k c).envelope = s.envelope := by
  simp [State.acquired]
@[simp] theorem State.acquired_relay (l : Nat) (m : Mode) (e : Epoch) (k : FrameKind) (c : Bool) (s : State) : (s.acquired l m e k c).relay = s.relay := by
  simp [State.acquired]
@[simp] theorem State.acquired_board (l : Nat) (m : Mode) (e : Epoch) (k : FrameKind) (c : Bool) (s : State) : (s.acquired l m e k c).board = s.board := by
  simp [State.acquired]
@[simp] theorem State.acquired_discrete (l : Nat) (m : Mode) (e : Epoch) (k : FrameKind) (c : Bool) (s : State) : (s.acquired l m e k c).discrete = s.discrete := by
  simp [State.acquired]

@[simp] theorem State.sendRelease_pending (l : Nat) (e : Epoch) (s : State) : (s.sendRelease l e).pending = s.pending := by
  simp [State.sendRelease]
@[simp] theorem State.sendRelease_now (l : Nat) (e : Epoch) (s : State) : (s.sendRelease l e).now = s.now := by
  simp [State.sendRelease]
@[simp] theorem State.sendRelease_startup (l : Nat) (e : Epoch) (s : State) : (s.sendRelease l e).startup = s.startup := by
  simp [State.sendRelease]
@[simp] theorem State.sendRelease_record (l : Nat) (e : Epoch) (s : State) : (s.sendRelease l e).record = s.record := by
  simp [State.sendRelease]
@[simp] theorem State.sendRelease_monitor (l : Nat) (e : Epoch) (s : State) : (s.sendRelease l e).monitor = s.monitor := by
  simp [State.sendRelease]
@[simp] theorem State.sendRelease_envelope (l : Nat) (e : Epoch) (s : State) : (s.sendRelease l e).envelope = s.envelope := by
  simp [State.sendRelease]
@[simp] theorem State.sendRelease_relay (l : Nat) (e : Epoch) (s : State) : (s.sendRelease l e).relay = s.relay := by
  simp [State.sendRelease]
@[simp] theorem State.sendRelease_board (l : Nat) (e : Epoch) (s : State) : (s.sendRelease l e).board = s.board := by
  simp [State.sendRelease]
@[simp] theorem State.sendRelease_discrete (l : Nat) (e : Epoch) (s : State) : (s.sendRelease l e).discrete = s.discrete := by
  simp [State.sendRelease]

@[simp] theorem State.claimAgain_pending (l : Nat) (g : Origin) (m : Mode) (e : Epoch) (s : State) : (s.claimAgain l g m e).pending = s.pending := by
  simp [State.claimAgain]
@[simp] theorem State.claimAgain_now (l : Nat) (g : Origin) (m : Mode) (e : Epoch) (s : State) : (s.claimAgain l g m e).now = s.now := by
  simp [State.claimAgain]
@[simp] theorem State.claimAgain_startup (l : Nat) (g : Origin) (m : Mode) (e : Epoch) (s : State) : (s.claimAgain l g m e).startup = s.startup := by
  simp [State.claimAgain]
@[simp] theorem State.claimAgain_record (l : Nat) (g : Origin) (m : Mode) (e : Epoch) (s : State) : (s.claimAgain l g m e).record = s.record := by
  simp [State.claimAgain]
@[simp] theorem State.claimAgain_monitor (l : Nat) (g : Origin) (m : Mode) (e : Epoch) (s : State) : (s.claimAgain l g m e).monitor = s.monitor := by
  simp [State.claimAgain]
@[simp] theorem State.claimAgain_envelope (l : Nat) (g : Origin) (m : Mode) (e : Epoch) (s : State) : (s.claimAgain l g m e).envelope = s.envelope := by
  simp [State.claimAgain]
@[simp] theorem State.claimAgain_relay (l : Nat) (g : Origin) (m : Mode) (e : Epoch) (s : State) : (s.claimAgain l g m e).relay = s.relay := by
  simp [State.claimAgain]
@[simp] theorem State.claimAgain_board (l : Nat) (g : Origin) (m : Mode) (e : Epoch) (s : State) : (s.claimAgain l g m e).board = s.board := by
  simp [State.claimAgain]
@[simp] theorem State.claimAgain_discrete (l : Nat) (g : Origin) (m : Mode) (e : Epoch) (s : State) : (s.claimAgain l g m e).discrete = s.discrete := by
  simp [State.claimAgain]

@[simp] theorem State.addEntry_pending (l : Nat) (k : OutKind) (m : Mode) (e : Epoch) (s : State) : (s.addEntry l k m e).pending = s.pending := by
  simp [State.addEntry]
@[simp] theorem State.addEntry_now (l : Nat) (k : OutKind) (m : Mode) (e : Epoch) (s : State) : (s.addEntry l k m e).now = s.now := by
  simp [State.addEntry]
@[simp] theorem State.addEntry_startup (l : Nat) (k : OutKind) (m : Mode) (e : Epoch) (s : State) : (s.addEntry l k m e).startup = s.startup := by
  simp [State.addEntry]
@[simp] theorem State.addEntry_record (l : Nat) (k : OutKind) (m : Mode) (e : Epoch) (s : State) : (s.addEntry l k m e).record = s.record := by
  simp [State.addEntry]
@[simp] theorem State.addEntry_monitor (l : Nat) (k : OutKind) (m : Mode) (e : Epoch) (s : State) : (s.addEntry l k m e).monitor = s.monitor := by
  simp [State.addEntry]
@[simp] theorem State.addEntry_envelope (l : Nat) (k : OutKind) (m : Mode) (e : Epoch) (s : State) : (s.addEntry l k m e).envelope = s.envelope := by
  simp [State.addEntry]
@[simp] theorem State.addEntry_relay (l : Nat) (k : OutKind) (m : Mode) (e : Epoch) (s : State) : (s.addEntry l k m e).relay = s.relay := by
  simp [State.addEntry]
@[simp] theorem State.addEntry_board (l : Nat) (k : OutKind) (m : Mode) (e : Epoch) (s : State) : (s.addEntry l k m e).board = s.board := by
  simp [State.addEntry]
@[simp] theorem State.addEntry_discrete (l : Nat) (k : OutKind) (m : Mode) (e : Epoch) (s : State) : (s.addEntry l k m e).discrete = s.discrete := by
  simp [State.addEntry]

@[simp] theorem State.present_pending (s : State) : (s.present).pending = s.pending := by
  unfold State.present; simp only []; split
  · rfl
  · split <;> simp
@[simp] theorem State.present_now (s : State) : (s.present).now = s.now := by
  unfold State.present; simp only []; split
  · rfl
  · split <;> simp
@[simp] theorem State.present_startup (s : State) : (s.present).startup = s.startup := by
  unfold State.present; simp only []; split
  · rfl
  · split <;> simp
@[simp] theorem State.present_liu (s : State) : (s.present).liu = s.liu := by
  unfold State.present; simp only []; split
  · rfl
  · split <;> simp
@[simp] theorem State.present_record (s : State) : (s.present).record = s.record := by
  unfold State.present; simp only []; split
  · rfl
  · split <;> simp
@[simp] theorem State.present_monitor (s : State) : (s.present).monitor = s.monitor := by
  unfold State.present; simp only []; split
  · rfl
  · split <;> simp
@[simp] theorem State.present_envelope (s : State) : (s.present).envelope = s.envelope := by
  unfold State.present; simp only []; split
  · rfl
  · split <;> simp
@[simp] theorem State.present_relay (s : State) : (s.present).relay = s.relay := by
  unfold State.present; simp only []; split
  · rfl
  · split <;> simp
@[simp] theorem State.present_holds (s : State) : (s.present).holds = s.holds := by
  unfold State.present; simp only []; split
  · rfl
  · split <;> simp

@[simp] theorem State.removeItem_pending (l : Nat) (w : Farewell) (s : State) : (s.removeItem l w).pending = s.pending := by
  unfold State.removeItem; split
  · rfl
  · unfold State.post?; simp only []; split <;> split <;> simp
@[simp] theorem State.removeItem_now (l : Nat) (w : Farewell) (s : State) : (s.removeItem l w).now = s.now := by
  unfold State.removeItem; split
  · rfl
  · unfold State.post?; simp only []; split <;> split <;> simp
@[simp] theorem State.removeItem_startup (l : Nat) (w : Farewell) (s : State) : (s.removeItem l w).startup = s.startup := by
  unfold State.removeItem; split
  · rfl
  · unfold State.post?; simp only []; split <;> split <;> simp
@[simp] theorem State.removeItem_liu (l : Nat) (w : Farewell) (s : State) : (s.removeItem l w).liu = s.liu := by
  unfold State.removeItem; split
  · rfl
  · unfold State.post?; simp only []; split <;> split <;> simp
@[simp] theorem State.removeItem_record (l : Nat) (w : Farewell) (s : State) : (s.removeItem l w).record = s.record := by
  unfold State.removeItem; split
  · rfl
  · unfold State.post?; simp only []; split <;> split <;> simp
@[simp] theorem State.removeItem_monitor (l : Nat) (w : Farewell) (s : State) : (s.removeItem l w).monitor = s.monitor := by
  unfold State.removeItem; split
  · rfl
  · unfold State.post?; simp only []; split <;> split <;> simp
@[simp] theorem State.removeItem_envelope (l : Nat) (w : Farewell) (s : State) : (s.removeItem l w).envelope = s.envelope := by
  unfold State.removeItem; split
  · rfl
  · unfold State.post?; simp only []; split <;> split <;> simp
@[simp] theorem State.removeItem_relay (l : Nat) (w : Farewell) (s : State) : (s.removeItem l w).relay = s.relay := by
  unfold State.removeItem; split
  · rfl
  · unfold State.post?; simp only []; split <;> split <;> simp
@[simp] theorem State.removeItem_holds (l : Nat) (w : Farewell) (s : State) : (s.removeItem l w).holds = s.holds := by
  unfold State.removeItem; split
  · rfl
  · unfold State.post?; simp only []; split <;> split <;> simp

@[simp] theorem State.giveStop_pending (s : State) : (s.giveStop).pending = s.pending := by
  unfold State.giveStop; split
  · rfl
  · split
    · rfl
    · split <;> simp
@[simp] theorem State.giveStop_now (s : State) : (s.giveStop).now = s.now := by
  unfold State.giveStop; split
  · rfl
  · split
    · rfl
    · split <;> simp
@[simp] theorem State.giveStop_startup (s : State) : (s.giveStop).startup = s.startup := by
  unfold State.giveStop; split
  · rfl
  · split
    · rfl
    · split <;> simp
@[simp] theorem State.giveStop_record (s : State) : (s.giveStop).record = s.record := by
  unfold State.giveStop; split
  · rfl
  · split
    · rfl
    · split <;> simp
@[simp] theorem State.giveStop_monitor (s : State) : (s.giveStop).monitor = s.monitor := by
  unfold State.giveStop; split
  · rfl
  · split
    · rfl
    · split <;> simp
@[simp] theorem State.giveStop_envelope (s : State) : (s.giveStop).envelope = s.envelope := by
  unfold State.giveStop; split
  · rfl
  · split
    · rfl
    · split <;> simp
@[simp] theorem State.giveStop_relay (s : State) : (s.giveStop).relay = s.relay := by
  unfold State.giveStop; split
  · rfl
  · split
    · rfl
    · split <;> simp
@[simp] theorem State.giveStop_holds (s : State) : (s.giveStop).holds = s.holds := by
  unfold State.giveStop; split
  · rfl
  · split
    · rfl
    · split <;> simp
@[simp] theorem State.giveStop_board (s : State) : (s.giveStop).board = s.board := by
  unfold State.giveStop; split
  · rfl
  · split
    · rfl
    · split <;> simp

@[simp] theorem State.joinStop_pending (e : StopEntry) (s : State) : (s.joinStop e).pending = s.pending := by
  unfold State.joinStop; split <;> simp
@[simp] theorem State.joinStop_now (e : StopEntry) (s : State) : (s.joinStop e).now = s.now := by
  unfold State.joinStop; split <;> simp
@[simp] theorem State.joinStop_startup (e : StopEntry) (s : State) : (s.joinStop e).startup = s.startup := by
  unfold State.joinStop; split <;> simp
@[simp] theorem State.joinStop_record (e : StopEntry) (s : State) : (s.joinStop e).record = s.record := by
  unfold State.joinStop; split <;> simp
@[simp] theorem State.joinStop_monitor (e : StopEntry) (s : State) : (s.joinStop e).monitor = s.monitor := by
  unfold State.joinStop; split <;> simp
@[simp] theorem State.joinStop_envelope (e : StopEntry) (s : State) : (s.joinStop e).envelope = s.envelope := by
  unfold State.joinStop; split <;> simp
@[simp] theorem State.joinStop_relay (e : StopEntry) (s : State) : (s.joinStop e).relay = s.relay := by
  unfold State.joinStop; split <;> simp
@[simp] theorem State.joinStop_holds (e : StopEntry) (s : State) : (s.joinStop e).holds = s.holds := by
  unfold State.joinStop; split <;> simp
@[simp] theorem State.joinStop_board (e : StopEntry) (s : State) : (s.joinStop e).board = s.board := by
  unfold State.joinStop; split <;> simp

@[simp] theorem State.setLatch_pending (c : StopCause) (s : State) : (s.setLatch c).pending = s.pending := by
  unfold State.setLatch; simp only []; split <;> simp
@[simp] theorem State.setLatch_now (c : StopCause) (s : State) : (s.setLatch c).now = s.now := by
  unfold State.setLatch; simp only []; split <;> simp
@[simp] theorem State.setLatch_startup (c : StopCause) (s : State) : (s.setLatch c).startup = s.startup := by
  unfold State.setLatch; simp only []; split <;> simp
@[simp] theorem State.setLatch_record (c : StopCause) (s : State) : (s.setLatch c).record = s.record := by
  unfold State.setLatch; simp only []; split <;> simp
@[simp] theorem State.setLatch_monitor (c : StopCause) (s : State) : (s.setLatch c).monitor = s.monitor := by
  unfold State.setLatch; simp only []; split <;> simp
@[simp] theorem State.setLatch_holds (c : StopCause) (s : State) : (s.setLatch c).holds = s.holds := by
  unfold State.setLatch; simp only []; split <;> simp
@[simp] theorem State.setLatch_board (c : StopCause) (s : State) : (s.setLatch c).board = s.board := by
  unfold State.setLatch; simp only []; split <;> simp

@[simp] theorem State.clearLatch_pending (s : State) : (s.clearLatch).pending = s.pending := by
  simp [State.clearLatch]
@[simp] theorem State.clearLatch_now (s : State) : (s.clearLatch).now = s.now := by
  simp [State.clearLatch]
@[simp] theorem State.clearLatch_startup (s : State) : (s.clearLatch).startup = s.startup := by
  simp [State.clearLatch]
@[simp] theorem State.clearLatch_record (s : State) : (s.clearLatch).record = s.record := by
  simp [State.clearLatch]
@[simp] theorem State.clearLatch_monitor (s : State) : (s.clearLatch).monitor = s.monitor := by
  simp [State.clearLatch]
@[simp] theorem State.clearLatch_envelope (s : State) : (s.clearLatch).envelope = s.envelope := by
  simp [State.clearLatch]
@[simp] theorem State.clearLatch_relay (s : State) : (s.clearLatch).relay = s.relay := by
  simp [State.clearLatch]
@[simp] theorem State.clearLatch_holds (s : State) : (s.clearLatch).holds = s.holds := by
  simp [State.clearLatch]
@[simp] theorem State.clearLatch_board (s : State) : (s.clearLatch).board = s.board := by
  simp [State.clearLatch]

@[simp] theorem State.changeState_pending (a : Authority) (s : State) : (s.changeState a).pending = s.pending := by
  unfold State.changeState; simp only []; split <;> simp
@[simp] theorem State.changeState_now (a : Authority) (s : State) : (s.changeState a).now = s.now := by
  unfold State.changeState; simp only []; split <;> simp
@[simp] theorem State.changeState_startup (a : Authority) (s : State) : (s.changeState a).startup = s.startup := by
  unfold State.changeState; simp only []; split <;> simp
@[simp] theorem State.changeState_holds (a : Authority) (s : State) : (s.changeState a).holds = s.holds := by
  unfold State.changeState; simp only []; split <;> simp
@[simp] theorem State.changeState_board (a : Authority) (s : State) : (s.changeState a).board = s.board := by
  unfold State.changeState; simp only []; split <;> simp

@[simp] theorem State.makeGrant_pending (t : Option (Nat × Mode)) (s : State) : (s.makeGrant t).pending = s.pending := by
  unfold State.makeGrant; simp only []; split <;> simp
@[simp] theorem State.makeGrant_now (t : Option (Nat × Mode)) (s : State) : (s.makeGrant t).now = s.now := by
  unfold State.makeGrant; simp only []; split <;> simp
@[simp] theorem State.makeGrant_startup (t : Option (Nat × Mode)) (s : State) : (s.makeGrant t).startup = s.startup := by
  unfold State.makeGrant; simp only []; split <;> simp
@[simp] theorem State.makeGrant_holds (t : Option (Nat × Mode)) (s : State) : (s.makeGrant t).holds = s.holds := by
  unfold State.makeGrant; simp only []; split <;> simp
@[simp] theorem State.makeGrant_board (t : Option (Nat × Mode)) (s : State) : (s.makeGrant t).board = s.board := by
  unfold State.makeGrant; simp only []; split <;> simp

end Sys2Proof.Machine
end

