-- ==== Sys2Proof/Laws/Link.lean ====
section
/-!
SUPPORT. What the Local Link's shared operations can do: the transmitter's start, the placing of a notice, the raising of
a flag, the response, and a request that reaches the slot.
-/

namespace Sys2Proof.Machine

/-! ### Raising a flag changes the flags and ATTN alone -/

@[simp] theorem Link.raise_slotBusy (f : EventFlag) (k : Link) : (k.raise f).slotBusy = k.slotBusy := rfl
@[simp] theorem Link.raise_parts (f : EventFlag) (k : Link) : (k.raise f).parts = k.parts := rfl
@[simp] theorem Link.raise_waiting (f : EventFlag) (k : Link) : (k.raise f).waiting = k.waiting := rfl
@[simp] theorem Link.raise_tx (f : EventFlag) (k : Link) : (k.raise f).tx = k.tx := rfl
@[simp] theorem Link.raise_restart (f : EventFlag) (k : Link) : (k.raise f).restart = k.restart := rfl
@[simp] theorem Link.raise_receiver (f : EventFlag) (k : Link) : (k.raise f).receiver = k.receiver := rfl
@[simp] theorem Link.raise_notices (f : EventFlag) (k : Link) : (k.raise f).notices = k.notices := rfl
@[simp] theorem Link.raise_credit (f : EventFlag) (k : Link) : (k.raise f).credit = k.credit := rfl
@[simp] theorem Link.raise_linkErrors (f : EventFlag) (k : Link) : (k.raise f).linkErrors = k.linkErrors := rfl
@[simp] theorem Link.raise_noticeOverflow (f : EventFlag) (k : Link) :
    (k.raise f).noticeOverflow = k.noticeOverflow := rfl
@[simp] theorem Link.raise_noticeNumber (f : EventFlag) (k : Link) : (k.raise f).noticeNumber = k.noticeNumber := rfl
@[simp] theorem Link.raise_recordNumber (f : EventFlag) (k : Link) : (k.raise f).recordNumber = k.recordNumber := rfl
@[simp] theorem Link.raise_unsentRecord (f : EventFlag) (k : Link) : (k.raise f).unsentRecord = k.unsentRecord := rfl
@[simp] theorem Link.raise_lastReport (f : EventFlag) (k : Link) : (k.raise f).lastReport = k.lastReport := rfl
@[simp] theorem Link.raise_mark (f : EventFlag) (k : Link) : (k.raise f).mark = k.mark := rfl
@[simp] theorem Link.raise_mask (f : EventFlag) (k : Link) : (k.raise f).mask = k.mask := rfl
@[simp] theorem Link.raise_flags (f : EventFlag) (k : Link) : (k.raise f).flags = k.flags ||| f.set := rfl
@[simp] theorem Link.raise_responseStream (f : EventFlag) (k : Link) :
    (k.raise f).responseStream = k.responseStream := rfl
@[simp] theorem Link.raise_noticeStream (f : EventFlag) (k : Link) : (k.raise f).noticeStream = k.noticeStream := rfl
@[simp] theorem Link.raise_busyStream (f : EventFlag) (k : Link) : (k.raise f).busyStream = k.busyStream := rfl

/-! ### The transmitter's start (R180) -/

/-- R180: what a start can do: nothing, or begin the unsent record, the oldest waiting response message, or the head of
the notice queue for one credit. -/
theorem Link.start_cases (now : Nat) (k : Link) :
    k.start now = k ∨
    (∃ r, k.tx = none ∧ k.unsentRecord = some r ∧ k.start now =
      { k with unsentRecord := none, recordNumber := k.recordNumber + 1,
               tx := some ⟨.record, ⟨0x70, k.recordNumber, r.body⟩, now⟩ }) ∨
    (∃ m rest, k.tx = none ∧ k.unsentRecord = none ∧ k.waiting = .response m :: rest ∧ k.start now =
      { k with waiting := rest, tx := some ⟨.response, m, now⟩ }) ∨
    (∃ m rest, k.tx = none ∧ k.unsentRecord = none ∧ k.waiting = .busy m :: rest ∧ k.start now =
      { k with waiting := rest, tx := some ⟨.busy, m, now⟩ }) ∨
    (∃ n rest, k.tx = none ∧ k.unsentRecord = none ∧ k.waiting = [] ∧ k.notices = n :: rest ∧ 0 < k.credit ∧
      k.start now = { k with notices := rest, credit := k.credit - 1, noticeNumber := k.noticeNumber + 1,
                             tx := some ⟨.notice, ⟨n.code, k.noticeNumber, n.body⟩, now⟩ }) := by
  unfold Link.start
  split
  · exact .inl rfl
  · split
    · rename_i r h; exact .inr (.inl ⟨r, by assumption, h, rfl⟩)
    · split
      · rename_i m rest h; exact .inr (.inr (.inl ⟨m, rest, by assumption, by assumption, h, rfl⟩))
      · rename_i m rest h; exact .inr (.inr (.inr (.inl ⟨m, rest, by assumption, by assumption, h, rfl⟩)))
      · split
        · split
          · rename_i n rest h hc
            exact .inr (.inr (.inr (.inr ⟨n, rest, by assumption, by assumption, by assumption, h, hc, rfl⟩)))
          · exact .inl rfl
        · exact .inl rfl

section start
variable (now : Nat) (k : Link)

@[simp] theorem Link.start_slotBusy : (k.start now).slotBusy = k.slotBusy := by
  rcases k.start_cases now with h | ⟨_, _, _, h⟩ | ⟨_, _, _, _, _, h⟩ | ⟨_, _, _, _, _, h⟩ | ⟨_, _, _, _, _, _, _, h⟩ <;> rw [h]
@[simp] theorem Link.start_parts : (k.start now).parts = k.parts := by
  rcases k.start_cases now with h | ⟨_, _, _, h⟩ | ⟨_, _, _, _, _, h⟩ | ⟨_, _, _, _, _, h⟩ | ⟨_, _, _, _, _, _, _, h⟩ <;> rw [h]
@[simp] theorem Link.start_restart : (k.start now).restart = k.restart := by
  rcases k.start_cases now with h | ⟨_, _, _, h⟩ | ⟨_, _, _, _, _, h⟩ | ⟨_, _, _, _, _, h⟩ | ⟨_, _, _, _, _, _, _, h⟩ <;> rw [h]
@[simp] theorem Link.start_receiver : (k.start now).receiver = k.receiver := by
  rcases k.start_cases now with h | ⟨_, _, _, h⟩ | ⟨_, _, _, _, _, h⟩ | ⟨_, _, _, _, _, h⟩ | ⟨_, _, _, _, _, _, _, h⟩ <;> rw [h]
@[simp] theorem Link.start_linkErrors : (k.start now).linkErrors = k.linkErrors := by
  rcases k.start_cases now with h | ⟨_, _, _, h⟩ | ⟨_, _, _, _, _, h⟩ | ⟨_, _, _, _, _, h⟩ | ⟨_, _, _, _, _, _, _, h⟩ <;> rw [h]
@[simp] theorem Link.start_noticeOverflow : (k.start now).noticeOverflow = k.noticeOverflow := by
  rcases k.start_cases now with h | ⟨_, _, _, h⟩ | ⟨_, _, _, _, _, h⟩ | ⟨_, _, _, _, _, h⟩ | ⟨_, _, _, _, _, _, _, h⟩ <;> rw [h]
@[simp] theorem Link.start_lastReport : (k.start now).lastReport = k.lastReport := by
  rcases k.start_cases now with h | ⟨_, _, _, h⟩ | ⟨_, _, _, _, _, h⟩ | ⟨_, _, _, _, _, h⟩ | ⟨_, _, _, _, _, _, _, h⟩ <;> rw [h]
@[simp] theorem Link.start_mark : (k.start now).mark = k.mark := by
  rcases k.start_cases now with h | ⟨_, _, _, h⟩ | ⟨_, _, _, _, _, h⟩ | ⟨_, _, _, _, _, h⟩ | ⟨_, _, _, _, _, _, _, h⟩ <;> rw [h]
@[simp] theorem Link.start_flags : (k.start now).flags = k.flags := by
  rcases k.start_cases now with h | ⟨_, _, _, h⟩ | ⟨_, _, _, _, _, h⟩ | ⟨_, _, _, _, _, h⟩ | ⟨_, _, _, _, _, _, _, h⟩ <;> rw [h]
@[simp] theorem Link.start_mask : (k.start now).mask = k.mask := by
  rcases k.start_cases now with h | ⟨_, _, _, h⟩ | ⟨_, _, _, _, _, h⟩ | ⟨_, _, _, _, _, h⟩ | ⟨_, _, _, _, _, _, _, h⟩ <;> rw [h]
@[simp] theorem Link.start_attn : (k.start now).attn = k.attn := by
  rcases k.start_cases now with h | ⟨_, _, _, h⟩ | ⟨_, _, _, _, _, h⟩ | ⟨_, _, _, _, _, h⟩ | ⟨_, _, _, _, _, _, _, h⟩ <;> rw [h]

/-- A start completes no message: the response in progress keeps its messages in order. -/
@[simp] theorem Link.start_responseStream : (k.start now).responseStream = k.responseStream := by
  rcases k.start_cases now with h | ⟨_, ht, _, h⟩ | ⟨_, _, ht, _, hw, h⟩ | ⟨_, _, ht, _, hw, h⟩ | ⟨_, _, ht, _, hw, _, _, h⟩ <;>
    rw [h] <;> simp [Link.responseStream, Link.sending?, Waiting.response?, List.filterMap_cons, *]
/-- A start completes no message: the BUSY answers stay. -/
@[simp] theorem Link.start_busyStream : (k.start now).busyStream = k.busyStream := by
  rcases k.start_cases now with h | ⟨_, ht, _, h⟩ | ⟨_, _, ht, _, hw, h⟩ | ⟨_, _, ht, _, hw, h⟩ | ⟨_, _, ht, _, hw, _, _, h⟩ <;>
    rw [h] <;> simp [Link.busyStream, Link.sending?, Waiting.busy?, List.filterMap_cons, *]
/-- A start completes no message: the notices stay in order. -/
@[simp] theorem Link.start_noticeStream : (k.start now).noticeStream = k.noticeStream := by
  rcases k.start_cases now with h | ⟨_, ht, _, h⟩ | ⟨_, _, ht, _, hw, h⟩ | ⟨_, _, ht, _, hw, h⟩ | ⟨_, _, ht, _, hw, hn, _, h⟩ <;>
    rw [h] <;> simp [Link.noticeStream, Link.sending?, *]

/-- A start that finds a response message or a BUSY answer waiting leaves the notice queue and the credit. -/
theorem Link.start_keeps_notices (hw : k.waiting ≠ []) :
    (k.start now).notices = k.notices ∧ (k.start now).credit = k.credit ∧
      (k.start now).noticeNumber = k.noticeNumber := by
  rcases k.start_cases now with h | ⟨_, _, _, h⟩ | ⟨_, _, _, _, _, h⟩ | ⟨_, _, _, _, _, h⟩ | ⟨_, _, _, _, hw', _, _, h⟩
  · rw [h]; simp
  · rw [h]; simp
  · rw [h]; simp
  · rw [h]; simp
  · exact absurd hw' hw

end start

/-! ### Placing a notice (R182) -/

/-- R182: a notice other than STATE joins the tail of a queue with room. -/
theorem Link.placeNotice_room (n : Notice) (k : Link) (hs : n.isState = false) (hr : k.notices.length < 32) :
    k.placeNotice n = { k with notices := k.notices ++ [n] } := by
  simp [Link.placeNotice, hs, Config.noticeQueueSize, hr]

/-- R182: a posted notice other than STATE is the last of the notices to be completed, when the queue has room. -/
theorem State.post_noticeStream (n : Notice) (s : State) (hs : n.isState = false) (hr : s.link.notices.length < 32) :
    (s.post n).link.noticeStream = s.link.noticeStream ++ [n.wire] := by
  rw [State.post_link, Link.start_noticeStream, Link.placeNotice_room n s.link hs hr]
  simp [Link.noticeStream, Link.sending?, Notice.wire]

/-- Placing a notice leaves all of the Local Link but the notice queue, the overflow counter, the flags and ATTN. -/
theorem Link.placeNotice_frame (n : Notice) (k : Link) :
    (k.placeNotice n) =
      { k with
        notices := (k.placeNotice n).notices, noticeOverflow := (k.placeNotice n).noticeOverflow
        flags := (k.placeNotice n).flags, attn := (k.placeNotice n).attn } := by
  unfold Link.placeNotice
  split
  · rfl
  · split <;> rfl

@[simp] theorem Link.placeNotice_slotBusy (n : Notice) (k : Link) : (k.placeNotice n).slotBusy = k.slotBusy := by
  rw [Link.placeNotice_frame]
@[simp] theorem Link.placeNotice_restart (n : Notice) (k : Link) : (k.placeNotice n).restart = k.restart := by
  rw [Link.placeNotice_frame]
@[simp] theorem Link.placeNotice_receiver (n : Notice) (k : Link) : (k.placeNotice n).receiver = k.receiver := by
  rw [Link.placeNotice_frame]
@[simp] theorem Link.placeNotice_lastReport (n : Notice) (k : Link) : (k.placeNotice n).lastReport = k.lastReport := by
  rw [Link.placeNotice_frame]
@[simp] theorem Link.placeNotice_mark (n : Notice) (k : Link) : (k.placeNotice n).mark = k.mark := by
  rw [Link.placeNotice_frame]
@[simp] theorem Link.placeNotice_mask (n : Notice) (k : Link) : (k.placeNotice n).mask = k.mask := by
  rw [Link.placeNotice_frame]
@[simp] theorem Link.placeNotice_linkErrors (n : Notice) (k : Link) : (k.placeNotice n).linkErrors = k.linkErrors := by
  rw [Link.placeNotice_frame]
@[simp] theorem Link.placeNotice_responseStream (n : Notice) (k : Link) :
    (k.placeNotice n).responseStream = k.responseStream := by
  rw [Link.placeNotice_frame]; rfl
@[simp] theorem Link.placeNotice_busyStream (n : Notice) (k : Link) : (k.placeNotice n).busyStream = k.busyStream := by
  rw [Link.placeNotice_frame]; rfl

/-! ### The response (R174, R176) -/

/-- R176: a response has at least one message. -/
theorem responseMessages_ne_nil (kind tag : Byte) (code : ResultCode) (contents : List Byte) :
    responseMessages kind tag code contents ≠ [] := by
  simp [responseMessages]

/-- R174, R176: responding with the slot busy and no response in progress leaves the response as the one in progress, and
nothing else of the Local Link but the transmitter is touched. -/
theorem State.respond_spec (kind tag : Byte) (a : Answer) (s : State) (hb : s.link.slotBusy = true)
    (he : s.link.responseStream = []) :
    (s.respond kind tag a).link.Answers kind tag a.code a.contents ∧
      s.link.Beside [] 0 (s.respond kind tag a).link := by
  obtain ⟨m, rest, hm⟩ : ∃ m rest, responseMessages kind tag a.code a.contents = m :: rest := by
    cases h : responseMessages kind tag a.code a.contents with
    | nil => exact (responseMessages_ne_nil kind tag a.code a.contents h).elim
    | cons m rest => exact ⟨m, rest, rfl⟩
  have hl : (s.respond kind tag a).link =
      Link.start s.now { s.link with parts := rest, waiting := s.link.waiting ++ [.response m] } := by
    simp [State.respond, hm]
  have hk := Link.start_keeps_notices s.now
    { s.link with parts := rest, waiting := s.link.waiting ++ [.response m] } (by simp)
  have he' := he
  simp only [Link.responseStream, List.append_eq_nil_iff] at he'
  obtain ⟨⟨h1, h2⟩, h3⟩ := he'
  have h1' : Link.sending? .response { s.link with parts := rest, waiting := s.link.waiting ++ [.response m] } = none := by
    simpa [Link.sending?] using h1
  refine ⟨⟨by rw [hl]; simpa using hb, ?_⟩, ?_⟩
  · rw [hl, hm]
    simp only [Link.start_responseStream]
    simp only [Link.responseStream, h1', List.filterMap_append, h2]
    simp [Waiting.response?]
  · rw [hl]
    refine ⟨?_, fun _ => ⟨hk.1, hk.2.1, hk.2.2⟩, by simp, by simp, by simp, by simp, by simp, by simp, ?_, by simp, by simp⟩
    · rw [Link.start_noticeStream]; simp [Link.noticeStream, Link.sending?]
    · rw [Link.start_busyStream]
      simp [Link.busyStream, Link.sending?, List.filterMap_append, List.filterMap_cons, Waiting.busy?]

/-! ### A request that reaches the slot (R174, R175) -/

/-- The state in which a request that finds the slot free is carried out: the slot is busy and the receiver hunts. -/
def State.taken (s : State) : State := { s with link := { s.link with receiver := .hunt, slotBusy := true } }

/-- R174, R175: a request that a part awaits is carried out by `act` and answered with its answer. -/
theorem State.request_awaits (kind tag : Byte) (role : RequestRole) (act : State → State × Answer) (s : State)
    (h : s.Awaits role) :
    s.request kind tag true role act = (act s.taken).1.respond kind tag (act s.taken).2 := by
  obtain ⟨h1, h2, h3, h4, h5⟩ := h
  have hc : State.requestCheck kind true role { s with link := { s.link with receiver := .hunt, slotBusy := true } } = none := by
    rcases h5 with h5 | h5 <;> simp [State.requestCheck, h4, h5]
  simp only [State.request, h1, h2, State.taken]
  simp [hc]

/-- R175: a request that passes no check changes nothing but the slot and the receiver, and is answered with the code. -/
theorem State.request_refused (kind tag : Byte) (fits : Bool) (role : RequestRole) (act : State → State × Answer)
    (s : State) (code : ResultCode) (h1 : s.inService = true) (h2 : s.link.slotBusy = false)
    (h : State.requestCheck kind fits role s = some code) :
    s.request kind tag fits role act = s.taken.respond kind tag { code } := by
  have hc : State.requestCheck kind fits role { s with link := { s.link with receiver := .hunt, slotBusy := true } } =
      some code := h
  simp only [State.request, h1, h2, State.taken]
  simp [hc]

/-- R174, R175: a request that a part awaits, carried out by `act` without touching the slot or the response: the state is
the one `act` leaves but for the Local Link, which has the response in progress and else stands as `act` left it. -/
theorem State.request_spec (kind tag : Byte) (role : RequestRole) (act : State → State × Answer) (s : State)
    (h : s.Awaits role) (hb : (act s.taken).1.link.slotBusy = true) (he : (act s.taken).1.link.responseStream = []) :
    ∃ k, s.request kind tag true role act = { (act s.taken).1 with link := k } ∧
      k.Answers kind tag (act s.taken).2.code (act s.taken).2.contents ∧ (act s.taken).1.link.Beside [] 0 k := by
  rw [State.request_awaits kind tag role act s h]
  obtain ⟨h1, h2⟩ := State.respond_spec kind tag (act s.taken).2 (act s.taken).1 hb he
  refine ⟨_, ?_, h1, h2⟩
  unfold State.respond
  split <;> rfl

end Sys2Proof.Machine
end

