-- ==== Sys2Proof/Laws/Liu.lean ====
section
/-!
SUPPORT. What giving a frame to the LIU can do (R13 to R17): with room, the frame joins its class or replaces its like,
and only channel access moves on. Which parts of the LIU a rise of LCD moves, and who hears the line (R2, R21).
-/

namespace Sys2Proof.Machine

/-- R21: an active part is in service. -/
theorem State.inService_of_active {s : State} (h : s.active = true) : s.inService = true :=
  (Bool.and_eq_true _ _ ▸ h : s.inService = true ∧ _).1

/-- R2: an active part hears the line exactly while LKEY is low. -/
theorem State.hearsLine_of_active {s : State} (h : s.active = true) : s.hearsLine = !s.liu.lkey := by
  simp [State.hearsLine, State.inService_of_active h]

/-- R17: doubling the window of the head changes the queue alone. -/
theorem Liu.doubleHead_frame (q : Liu) :
    q.doubleHead =
      { q with classS := q.doubleHead.classS, classA := q.doubleHead.classA, classC := q.doubleHead.classC } := by
  unfold Liu.doubleHead; split <;> rfl

/-- R16, R17: a rise of LCD changes, of channel access, the access state and the queue alone. -/
theorem Liu.accessRise_frame (q : Liu) :
    q.accessRise =
      { q with
        access := q.accessRise.access, classS := q.accessRise.classS
        classA := q.accessRise.classA, classC := q.accessRise.classC } := by
  unfold Liu.accessRise; split
  · rw [show q.doubleHead = _ from q.doubleHead_frame]
  all_goals rfl

/-- R17: entering WAIT changes channel access and the draws alone. -/
theorem Liu.enterWait_frame (now station : Nat) (q : Liu) :
    q.enterWait now station =
      { q with access := (q.enterWait now station).access, draws := (q.enterWait now station).draws } := by
  unfold Liu.enterWait; split <;> rfl

/-- R16: entering GAP changes channel access and the draws alone. -/
theorem Liu.enterGap_frame (now station : Nat) (q : Liu) :
    q.enterGap now station =
      { q with access := (q.enterGap now station).access, draws := (q.enterGap now station).draws } := by
  unfold Liu.enterGap; split
  · exact Liu.enterWait_frame now station q
  · rfl

/-- R16, R17: a joining frame changes channel access and the draws alone, and a sending under way goes on. -/
theorem Liu.onJoin_spec (now station : Nat) (before : Option FrameClass) (joined : FrameClass) (q : Liu) :
    q.onJoin now station before joined =
      { q with
        access := (q.onJoin now station before joined).access, draws := (q.onJoin now station before joined).draws } ∧
    ∀ out, q.access = .sending out → (q.onJoin now station before joined).access = q.access := by
  unfold Liu.onJoin
  cases h : q.access with
  | idle => exact ⟨Liu.enterGap_frame now station q, by simp⟩
  | gap => exact ⟨by simp, by simp⟩
  | sending x => exact ⟨by simp, by simp [h]⟩
  | wait e =>
    refine ⟨?_, by simp⟩
    cases before with
    | none => exact Liu.enterWait_frame now station q
    | some b =>
      dsimp only
      split
      · exact Liu.enterWait_frame now station q
      · simp

/-- R13 to R15: a frame given with room is not dropped and joins the queue. -/
theorem Liu.give_spec (now station : Nat) (f : TxFrame) (q : Liu) (hr : q.HasRoom f) :
    (q.give now station f).2 = false ∧ Liu.Joined f q (q.give now station f).1 := by
  unfold Liu.HasRoom at hr
  unfold Liu.give Liu.Joined
  cases hc : f.kind.frameClass with
  | s =>
    simp only [hc] at hr
    simp only [Config.slotsS, hr, if_true, true_and]
    obtain ⟨h1, h2⟩ := Liu.onJoin_spec now station (q.head?.map fun h => h.kind.frameClass) .s
      { q with classS := q.classS ++ [f] }
    exact ⟨by rw [h1]; simp, h2⟩
  | a =>
    simp only [hc] at hr
    simp only [Config.slotsA, hr, if_true, true_and]
    obtain ⟨h1, h2⟩ := Liu.onJoin_spec now station (q.head?.map fun h => h.kind.frameClass) .a
      { q with classA := q.classA ++ [f] }
    exact ⟨by rw [h1]; simp, h2⟩
  | c =>
    simp only [joinC]
    by_cases ha : q.classC.any (·.sameSlot f)
    · simp [ha]
    · by_cases hl : q.classC.length < 6
      · simp only [Config.slotsC, ha, hl]
        obtain ⟨h1, h2⟩ := Liu.onJoin_spec now station (q.head?.map fun h => h.kind.frameClass) .c
          { q with classC := q.classC ++ [f] }
        exact ⟨by simp, by rw [show _ = _ from h1]; simp, h2⟩
      · simp only [Config.slotsC, ha, hl]
        obtain ⟨h1, h2⟩ := Liu.onJoin_spec now station (q.head?.map fun h => h.kind.frameClass) .c
          { q with classC := q.classC.tail ++ [f] }
        exact ⟨by simp, by rw [show _ = _ from h1]; simp, h2⟩

/-- R13 to R15, R21: a frame given to the active LIU with room changes the LIU alone, where it joins the queue. -/
theorem State.give_spec (f : TxFrame) (s : State) (ha : s.active = true) (hr : s.liu.HasRoom f) :
    s.give f = { s with liu := (s.give f).liu } ∧ Liu.Joined f s.liu (s.give f).liu ∧ s.wouldDrop f = false := by
  obtain ⟨h1, h2⟩ := Liu.give_spec s.now s.station f s.liu hr
  have hg : s.give f = { s with liu := (s.liu.give s.now s.station f).1 } := by
    unfold State.give
    rw [if_pos ha]
    split
    · rename_i q h; rw [h]
    · rename_i q h; rw [h] at h1; cases h1
  rw [hg]
  exact ⟨rfl, h2, h1⟩

end Sys2Proof.Machine
end

