-- ==== Sys2Proof/Tests/Slice0.lean ====
section
/-!
SUPPORT. The model's own tests: the values the spec works out, the smoke test of the well-formedness checks, and for
every statement with hypotheses a state and operands that meet them together, clause by clause, at the boundary values
of their ranges (31 notices of 32, 7 frames of 8 in class A, 5 entries of 6).
-/

namespace Sys2Proof.Tests

open Sys2Proof Sys2Proof.Machine

-- One test after another: side by side their kernel evaluations ask for more threads than a check may have.
set_option Elab.async false

/-! ### Small states -/

/-- A part in service and active in a role, at station 3, 5 s after its power-on, with one place left in class A, in
class S and in the notice queue. -/
def base (r : Role) : State :=
  { now := sec 5
    startup := { role := r, station := 3, condition := .running }
    liu := { classS := [TxFrame.make .clear 9 9 0 []], classA := List.replicate 7 (TxFrame.make .claim 9 9 0 [1]) }
    link := { notices := List.replicate 31 (.present 9) } }

/-- The frame whose body is given, to and about station 3. -/
def frame (k : FrameKind) (epoch : Epoch) (body : List Byte) : TxFrame := TxFrame.make k 3 3 epoch body

/-- A frame as its receiver judges it, from a source, with sequence 9. -/
def got (f : TxFrame) (source : Nat) : RxFrame := ⟨f.kind, source, f.dest, f.loader, f.epoch, 9, f.body⟩

/-- The end of the reception of a frame from a source is at hand. -/
def hearing (f : TxFrame) (source : Nat) (s : State) : State :=
  { s with liu := { s.liu with
      lcd := true, receiving := true, rxBuffer := f.bytes source 9, rxCount := (f.bytes source 9).length } }

/-- A loader with its record in a state, at epoch 4, whose neighbours follow the record. -/
def loader (a : Authority) : State :=
  { base .loader with
    record := { auth := a, epoch := 4 }
    monitor := { view := ⟨a.current?, a.mode?, 4, a.state⟩, lastHolderAt := some (sec 5), lapse := some (sec 5) }
    relay := { view := ⟨a.current?, a.mode?, 4, a.state⟩ }
    envelope := { timer := some (sec 5) }
    discrete := { stopchain := ⟨true, true, some ⟨true, 3⟩⟩, motionEnable := a.current?.isSome } }

/-- A chair in posture ACTIVE with its inputs closed, held and released. -/
def chair : State :=
  { base .chair with
    holds := { posture := .active }
    discrete :=
      { stopchain := ⟨true, true, some ⟨true, 3⟩⟩, seat := ⟨true, true, some ⟨true, 3⟩⟩
        deadman := ⟨true, true, some ⟨true, 3⟩⟩, confirm := ⟨false, true, some ⟨false, 3⟩⟩ } }

/-- An entry for loader 7, with every deadline due. -/
def entry (m : Mode) (p : Phase) : Entry :=
  { loader := 7, mode := m, phase := p, epoch := 4, continueOk := true, addedAt := sec 4, absence := some (sec 5)
    supervise := some (sec 5) }

/-- The chair with that one entry. -/
def holding (m : Mode) (p : Phase) : State := { chair with holds := { posture := .active, entries := [entry m p] } }

/-- The chair with five entries, for loaders 11 to 15, all SUPERVISE. -/
def nearlyFull : State :=
  { chair with holds := { posture := .active, entries := [11, 12, 13, 14, 15].map fun n =>
      { entry .supervise (.held none) with loader := n } } }

/-- An outstanding CLAIM at its attempt. -/
def outstanding (attempts : Nat) : Outstanding := ⟨.claim, some .drive, 0, attempts, sec 5, 1⟩

/-- An offer of loader 7 in its time. -/
def offering : Phase := .offering ⟨.station 5, .drive, sec 1, some (sec 5), 1⟩

/-- An item for loader 7, presented. -/
def item (k : ItemKind) (m : Mode) : Item := ⟨7, k, m, 4, sec 5, true⟩

/-- The chair with that one item. -/
def boarded (k : ItemKind) (m : Mode) : State := { chair with board := { items := [item k m] } }

/-- The same with `n` places left in the notice queue. -/
def spare (n : Nat) (s : State) : State := { s with link := { notices := List.replicate (32 - n) (.present 9) } }

/-- A frame passes its receiver's check, once for all the states that hear it. -/
abbrev Heard (f : TxFrame) (source : Nat) : Prop :=
  receiveCheck (f.bytes source 9) (f.bytes source 9).length = some (got f source)

theorem takesAsLoader {f : TxFrame} {source : Nat} (h : Heard f source) (hs : source ≠ 3) (hl : f.loader = 3) (s : State)
    (ha : s.active = true) (hr : s.startup.role = .loader) (hst : s.startup.station = 3) (hk : s.liu.lkey = false) :
    (hearing f source s).TakesAsLoader (got f source) :=
  ⟨⟨ha, rfl, hk, rfl, h⟩, hr, fun e => hs (e.trans hst), hl.trans hst.symm⟩

theorem takesAsChair {f : TxFrame} {source : Nat} (h : Heard f source) (hs : source ≠ 3) (s : State)
    (ha : s.active = true) (hr : s.startup.role = .chair) (hst : s.startup.station = 3) (hk : s.liu.lkey = false) :
    (hearing f source s).TakesAsChair (got f source) :=
  ⟨⟨ha, rfl, hk, rfl, h⟩, hr, fun e => hs (e.trans hst)⟩

/-- The outcome of a command, or the state itself where it does not complete. -/
def after (c : Instr) (s : State) : State := match exec c s with | .next t => t | .fault _ | .refused _ => s

/-! ### Values the spec works out -/

/-- R4: the check of the digits one to nine. -/
theorem test_crc_of_the_digits : crc16 [0x31, 0x32, 0x33, 0x34, 0x35, 0x36, 0x37, 0x38, 0x39] = 0x29B1 := by
  decide +kernel

/-- Table 7-4: the age term for Vq = 150 with Tf = 200 and Tl = 600. -/
theorem test_age_term_at_its_limits :
    [0, 200, 201, 300, 400, 500, 599, 600].map (ageTerm 200 600 150) = [150, 150, 149, 112, 75, 37, 0, 0] := by
  decide +kernel

/-- Section 7.8, a mid-hold evaluation: Q = 6, age 300 ms, cap 70, zone 120 reported 60 ms ago: the cap is 84. -/
theorem test_mid_hold_evaluation :
    let s := loader (.held 5 .drive none)
    State.capOf .interval { s with
      monitor := { s.monitor with
        window := [true, true, false, true, true, true, false, true], lastHolderAt := some (sec 5 - ms 300) }
      envelope := { s.envelope with cap := 70 }
      link := { s.link with lastReport := some ⟨0, 0, some 120, sec 5 - ms 60⟩ } } = 84 := by
  decide +kernel

/-- Section 7.8: an OFFER taken in that hold 20 ms later: the loader crawls at 30. -/
theorem test_offer_lowers_to_crawl :
    let s := loader (.transfer 5 .drive ⟨.station 8, .drive, sec 9⟩)
    State.capOf .lowering { s with
      monitor := { s.monitor with
        window := [true, true, false, true, true, true, false, true], lastHolderAt := some (sec 5 - ms 320) }
      envelope := { s.envelope with cap := 84 }
      link := { s.link with lastReport := some ⟨0, 0, some 120, sec 5 - ms 80⟩ } } = 30 := by
  decide +kernel

/-- Section 7.8, other limits: a REPORT of 1,000 ms is fresh and bounds by its zone; one of 1,001 ms bounds by 30. -/
theorem test_report_freshness :
    let s := loader (.held 5 .drive none)
    let cap (age : Nat) := State.capOf .interval { s with
      monitor := { s.monitor with window := List.replicate 8 true, lastHolderAt := some (sec 5 - ms 100) }
      envelope := { s.envelope with cap := 150 }
      link := { s.link with lastReport := some ⟨0, 0, some 120, sec 5 - ms age⟩ } }
    cap 1000 = 120 ∧ cap 1001 = 30 := by
  decide +kernel

/-- Section 6.1, judging sequences: the remembered sequence 250 is followed by 121 and not by 250, 200 or 122. -/
theorem test_judging_sequences :
    [250, 200, 121, 122].map (seqNewer · 250) = [false, false, true, false] ∧ seqNewer 3 121 = false ∧
      seqNewer 125 121 = true := by
  decide +kernel

/-- Section 11.3, a block clamped at a loader. -/
theorem test_a_block_clamped_at_a_loader :
    let c := decodeSettings .loader
      ([90, 2, 25, 40, 4, 0, 255, 0, 70, 0, 60, 0, 9, 0, 5, 0, 70, 12] ++ List.replicate 32 0) {}
    c.p = 80 ∧ c.l = 3 ∧ c.s = 20 ∧ c.tx = 30 ∧ c.tr = 5 ∧ c.vmax = 250 ∧ c.vrev = 70 ∧ c.vcrawl = 0 ∧ c.rup = 50 ∧
      c.homePool = 1 ∧ c.seniorSet = [5, 12] := by
  decide +kernel

/-- Section 7.8, build-up: the first interval after the holder's first frame gives 18. -/
theorem test_build_up_begins_with_18 :
    let s := loader (.held 5 .drive none)
    (after .envelopeIntervalExpiry { s with monitor := { s.monitor with openMark := true } }).envelope.cap = 18 := by
  decide +kernel

/-- R32, R25: a CLAIM on a free loader is granted: the epoch moves on and the station holds. -/
theorem test_claim_on_a_free_loader :
    let t := after .receptionComplete (hearing (frame .claim 0 [1]) 5 (loader .free))
    t.record.auth = .held 5 .drive none ∧ t.record.epoch = 5 := by
  decide +kernel

/-- R164: the holder's CLEAR with the chain closed clears the latch. -/
theorem test_clear_from_the_holder :
    let s := loader (.held 5 .drive none)
    (after .receptionComplete (hearing (frame .clear 4 []) 5
      { s with discrete := { s.discrete with latch := some .localStop } })).discrete.latch = none := by
  decide +kernel

/-- R162: the first cause of the latch stands. -/
theorem test_the_first_cause_stands :
    let s := loader (.held 5 .drive none)
    (after (.localStop 1) { s with discrete := { s.discrete with latch := some (.frame 1 5) } }).discrete.latch =
      some (.frame 1 5) := by
  decide +kernel

/-- R138: AXES clamps steer 127 to 100 and travel −300 to −250. -/
theorem test_axes_are_clamped :
    (after (.axes 1 127 0xFED4 0 0x80) chair).relay.axes = some ⟨100, -250, 0, -100, sec 5⟩ := by
  decide +kernel

/-- R54: the last entry's RELEASED in STANDING_DOWN makes the posture VACANT. -/
theorem test_the_last_entry_ends_standing_down :
    let s := holding .drive (.releasing ⟨.release, none, 4, 4, sec 5, 1⟩)
    (after (.answerDeadlineExpiry 7) { s with holds := { s.holds with posture := .standingDown } }).holds.posture =
      .vacant := by
  decide +kernel

/-- R183: a MARK with no notice ahead completes at once and raises MARK_DONE, the bit 4. -/
theorem test_a_mark_with_nothing_ahead :
    (after (.mark 1) { base .chair with link := {} }).link.flags = 0x0010 := by
  decide +kernel

/-- R194: a power-on holds the part for 20 ms and raises COLD_START, the bit 11. -/
theorem test_power_on :
    let t := after .powerOn (base .loader)
    t.startup.hold = some (sec 5 + ms 20) ∧ t.link.flags = 0x0800 := by
  decide +kernel

/-- R194: a low pulse of RESET of 10 µs restarts the part, and one of 9 µs is ignored. -/
theorem test_reset_pulse :
    (after .resetFall chair).startup.condition = .loading ∧ after (.resetFallFor 9) chair = chair := by
  decide +kernel

/-- The chair in a condition, with its RESET pin low or high. -/
def inCondition (c : Condition) (resetLow : Bool := false) : State :=
  { chair with startup := { chair.startup with condition := c, resetLow } }

/-- A part with its LCD raised and no reception under way. -/
def underCarrier (s : State) : State := { s with liu := { s.liu with lcd := true } }

/-- R2 sets no condition but a low LKEY: a rise of LCD during the configuration load begins a reception. -/
theorem test_rise_during_the_load :
    let t := after .lcdRise (inCondition .loading)
    t.liu.lcd = true ∧ t.liu.receiving = true ∧ t.liu.blocked = none := by
  decide +kernel

/-- R2, R22: a soft restart in SENDING lowers LKEY, and under a raised LCD the lowering counts as a rise. -/
theorem test_soft_restart_under_a_carrier :
    let s := underCarrier chair
    let t := after (.messageSent ⟨false, 3⟩) { s with
      liu := { s.liu with lkey := true }
      link := { slotBusy := true, restart := some .soft, tx := some ⟨.response, ⟨0x87, 1, [0, 0]⟩, 0⟩ } }
    t.liu.lkey = false ∧ t.liu.receiving = true ∧ t.liu.blocked = some (t.now + sec 2) := by
  decide +kernel

/-! ### Well-formedness: each check refuses an ill-formed command -/

theorem test_no_loader_0 :
    [Instr.answerDeadlineExpiry 0, .offerDeadlineExpiry 0, .itemDeadlineExpiry 0, .absenceDeadlineExpiry 0,
      .superviseDeadlineExpiry 0].map Instr.wellFormed = List.replicate 5 false := by
  decide +kernel

theorem test_no_loader_64 :
    [Instr.answerDeadlineExpiry 64, .offerDeadlineExpiry 64, .itemDeadlineExpiry 64, .absenceDeadlineExpiry 64,
      .superviseDeadlineExpiry 64].map Instr.wellFormed = List.replicate 5 false := by
  decide +kernel

theorem test_loader_63 :
    [Instr.answerDeadlineExpiry 63, .offerDeadlineExpiry 63, .itemDeadlineExpiry 63, .absenceDeadlineExpiry 63,
      .superviseDeadlineExpiry 63].map Instr.wellFormed = List.replicate 5 true := by
  decide +kernel

theorem test_no_block_of_49_bytes :
    (Instr.settingsBlockRead (List.replicate 49 0)).wellFormed = false ∧
      (Instr.settingsBlockRead (List.replicate 50 0)).wellFormed = true := by
  decide +kernel

theorem test_no_unknown_kind_of_the_table :
    (Instr.unknownRequestKind 0x34 0).wellFormed = false ∧ (Instr.unknownRequestKind 0x35 0).wellFormed = true := by
  decide +kernel

/-! ### Witnesses of the hypotheses: the step, the invariants, the line -/

theorem test_witness_StepRunsTheFrontCommand : State.reset.pending = [] := by decide

/-- A held loader with a command at the front of its queue: its step completes. -/
def held : State := { loader (.held 5 .drive none) with pending := [.envelopeIntervalExpiry] }

theorem test_witness_EveryStepKeepsMotionSafe : held.MotionSafe ∧ ∃ t, step held = .next t :=
  ⟨by unfold State.MotionSafe; decide +kernel, _, rfl⟩

theorem test_witness_EveryStepKeepsTheBounds : held.Bounded ∧ ∃ t, step held = .next t :=
  ⟨by unfold State.Bounded; decide +kernel, _, rfl⟩

theorem test_witness_EveryStepKeepsTheTablesSound :
    let s := { boarded (.namedOffer 5) .drive with
      pending := [.gestureWindowExpiry], board := { items := [item (.namedOffer 5) .drive]
                                                    gesture := some ⟨7, .acceptItem, sec 5⟩ } }
    s.TablesSound ∧ ∃ t, step s = .next t :=
  ⟨⟨by decide +kernel, by decide +kernel, by decide +kernel, by unfold Board.Presents; decide +kernel, by decide +kernel,
    by decide +kernel, by intro g h _; cases h; exact ⟨_, List.mem_singleton.2 rfl, rfl, rfl⟩⟩, _, rfl⟩

theorem test_witness_EveryStepKeepsAttention : held.AttnSound ∧ ∃ t, step held = .next t :=
  ⟨by unfold State.AttnSound; decide +kernel, _, rfl⟩

theorem test_witness_EveryStepKeepsTheRolesApart :
    held.RolesSound ∧ chair.RolesSound ∧ State.reset.RolesSound ∧ ∃ t, step held = .next t :=
  ⟨by unfold State.RolesSound; decide +kernel, by unfold State.RolesSound; decide +kernel,
    by unfold State.RolesSound; decide +kernel, _, rfl⟩

theorem test_witness_TheEpochMovesOnlyByAGrant : ∃ t, exec .receptionComplete held = .next t := ⟨_, rfl⟩

theorem test_witness_TheCapRisesOnlyAtAnInterval : ∃ t, exec .envelopeIntervalExpiry held = .next t := ⟨_, rfl⟩

theorem test_witness_ASetLatchKeepsItsCause :
    let s := { held with discrete := { held.discrete with latch := some .localStop } }
    s.discrete.latch = some .localStop ∧ ∃ t, exec .receptionComplete s = .next t :=
  ⟨rfl, _, rfl⟩

theorem test_witness_ASentFrameIsReceived :
    (∀ source ∈ [1, 63], 1 ≤ source ∧ source ≤ 63) ∧ (∀ dest ∈ [0, 63, 65, 72], dest ≤ 63 ∨ (65 ≤ dest ∧ dest ≤ 72)) ∧
      (frame .drive 4 [0, 0, 0, 0, 0, 0]).loader ≤ 63 ∧
      (frame .drive 4 [0, 0, 0, 0, 0, 0]).body.length = FrameKind.drive.bodyLength := by
  decide +kernel

theorem test_witness_TheBytesOfARequestDoWhatItsRowDoes :
    requestMessage? (.axes 1 2 0x0304 5 6) = some (⟨0x10, 1, [2, 3, 4, 5, 6]⟩, some .chair) ∧
      chair.inService = true ∧ chair.link.receiver = .hunt := by
  decide +kernel

/-- The chair with its access in a state. -/
def accessing (a : Access) : State := { chair with liu := { chair.liu with access := a } }

theorem test_witness_TheLineIsHeard :
    (chair.active = true ∧ chair.liu.lkey = false ∧ chair.liu.lcd = false ∧ ∀ d, chair.liu.access ≠ .wait d) ∧
    (let s := accessing (.wait (sec 5))
     s.active = true ∧ s.liu.lkey = false ∧ s.liu.lcd = false ∧ s.liu.access = .wait (sec 5) ∧
       s.liu.frames = TxFrame.make .clear 9 9 0 [] :: List.replicate 7 (TxFrame.make .claim 9 9 0 [1])) ∧
    (∀ c ∈ [Condition.loading, .faultHold],
      (inCondition c).inService = true ∧ (inCondition c).active = false ∧ (inCondition c).liu.lkey = false ∧
        (inCondition c).liu.lcd = false) ∧
    ((inCondition .loading true).inService = false ∧ (inCondition .loading true).liu.lcd = false) ∧
    ((underCarrier chair).liu.receiving = false) ∧
    (let s := { chair with liu := { chair.liu with lkey := true } }
     s.liu.lkey = true ∧ s.liu.lcd = false) ∧
    (let s := { chair with liu := { chair.liu with lcd := true, receiving := true, rxBuffer := List.replicate 26 0 } }
     s.inService = true ∧ s.liu.lkey = false ∧ s.liu.lcd = true ∧ s.liu.receiving = true ∧
       s.liu.rxBuffer.length ≤ 26) ∧
    (let s := { chair with liu := { chair.liu with blocked := some (sec 5) } }
     s.active = true ∧ s.liu.blocked = some (sec 5)) :=
  ⟨⟨by decide +kernel, rfl, rfl, by intro d h; cases h⟩, by decide +kernel, by decide +kernel, by decide +kernel,
    by decide +kernel, by decide +kernel, by decide +kernel, by decide +kernel⟩

theorem test_witness_ABadFrameIsDroppedAndAnOwnSourceIsADuplicate :
    (let s := { chair with liu := { chair.liu with lcd := true, receiving := true, badFrames := 65535 } }
     s.active = true ∧ s.liu.lcd = true ∧ s.liu.lkey = false ∧ s.liu.receiving = true ∧
       receiveCheck s.liu.rxBuffer s.liu.rxCount = none) ∧
    (let s := underCarrier chair
     s.active = true ∧ s.liu.lcd = true ∧ s.liu.lkey = false ∧ s.liu.receiving = false) ∧
    (let s := underCarrier (inCondition .loading)
     s.inService = true ∧ s.active = false ∧ s.liu.lcd = true ∧ s.liu.lkey = false) ∧
    (let s := underCarrier (inCondition .loading true)
     s.liu.lcd = true ∧ s.inService = false) ∧
    (let f := frame .claim 0 [1]
     let s := hearing f 3 chair
     s.Receives (got f 3) ∧ (got f 3).source = s.station ∧ s.startup.role = .chair) ∧
    (let f := frame .claim 0 [1]
     let s := hearing f 3 (loader .free)
     s.Receives (got f 3) ∧ (got f 3).source = s.station ∧ s.startup.role = .loader ∧ s.link.notices.length < 32) := by
  unfold State.Receives; decide +kernel

theorem test_witness_TheGapAndTheWaitLeadToASending :
    (let s := accessing .gap
     s.active = true ∧ s.liu.lcd = false ∧ s.liu.access = .gap ∧
       s.liu.frames = TxFrame.make .clear 9 9 0 [] :: List.replicate 7 (TxFrame.make .claim 9 9 0 [1]) ∧
       0 < (TxFrame.make .clear 9 9 0 []).window) ∧
    (let s := accessing (.wait (sec 5))
     s.active = true ∧ s.liu.lcd = false ∧ s.liu.access = .wait (sec 5) ∧
       s.liu.frames = TxFrame.make .clear 9 9 0 [] :: List.replicate 7 (TxFrame.make .claim 9 9 0 [1])) := by
  decide +kernel

theorem test_witness_ASendingRunsToItsCompletion :
    (let s := accessing (.sending ⟨frame .claim 0 [1], [], sec 5, false⟩)
     s.active = true ∧ s.liu.access = .sending ⟨frame .claim 0 [1], [], sec 5, false⟩) ∧
    (∀ owner ∈ [FrameOwner.plain, .status, .outstanding 1, .offer 1, .stop, .clear], ∀ lcd ∈ [false, true],
      let out : Sending := ⟨{ frame .claim 0 [1] with owner }, [], sec 5, true⟩
      let s := accessing (.sending out)
      let s := { s with liu := { s.liu with lcd } }
      s.active = true ∧ s.liu.access = .sending out ∧ out.leadOver = true ∧ out.frame.owner = owner ∧
        s.discrete.stopList.head? = none) ∧
    (∀ late ∈ [0, 1],
      let out : Sending := ⟨{ frame .stop 0 [1] with owner := .stop }, [], sec 5, true⟩
      let due : StopEntry := ⟨9, 1, out.endsAt + late⟩
      let s := { accessing (.sending out) with discrete := { stopList := [due] } }
      s.active = true ∧ s.discrete.stopList.head? = some due ∧ s.liu.classS.length < 2 ∧
        (due.notBefore ≤ max s.now out.endsAt ↔ late = 0)) := by
  decide +kernel

/-! ### Witnesses: frames, timers and requests aboard a loader -/

/-- A CLAIM in DRIVE from station 5 with an epoch. -/
def claimOf (epoch : Epoch) : TxFrame := frame .claim epoch [1]

theorem test_witness_AClaimIsJudgedByTheRecord_granted :
    ∀ a ∈ [Authority.free, .held 5 .drive none, .assist 8 1 (sec 6), .orphan 5 .drive (sec 6)],
      let f := got (claimOf 4) 5
      let s := hearing (claimOf 4) 5 (loader a)
      s.TakesAsLoader f ∧ f.kind = .claim ∧ modeOf? (f.at 0) = some .drive ∧
        ¬ (s.record.auth.current? = some f.source ∧ s.record.lastGrant.bind (·.holder) = some f.source ∧
          f.epoch = s.record.epoch - 1) ∧
        s.liu.classA.length < 8 ∧ s.link.notices.length < 32 ∧ s.record.auth = a ∧ f.epoch = s.record.epoch := by
  unfold State.TakesAsLoader State.Receives; decide +kernel

theorem test_witness_AClaimIsJudgedByTheRecord_refused :
    (let f := got (frame .claim 4 [3]) 5
     let s := hearing (frame .claim 4 [3]) 5 (loader .free)
     s.TakesAsLoader f ∧ f.kind = .claim ∧ s.liu.classA.length < 8 ∧ modeOf? (f.at 0) = none) ∧
    (let f := got (claimOf 3) 5
     let s := loader (.held 5 .drive none)
     let s := hearing (claimOf 3) 5
       { s with record := { s.record with lastGrant := some ⟨4, some 5, some .drive, none⟩ } }
     s.TakesAsLoader f ∧ f.kind = .claim ∧ s.liu.classA.length < 8 ∧ modeOf? (f.at 0) = some .drive ∧
       s.record.auth.current? = some f.source ∧ s.record.lastGrant.bind (·.holder) = some f.source ∧
       f.epoch = s.record.epoch - 1) ∧
    (∀ a ∈ [Authority.held 5 .drive none, .held 8 .drive none, .transfer 8 .drive ⟨.station 5, .drive, sec 6⟩,
        .orphan 5 .drive (sec 6), .orphan 8 .drive (sec 6)],
      let f := got (claimOf 5) 5
      let s := hearing (claimOf 5) 5 (loader a)
      s.TakesAsLoader f ∧ f.kind = .claim ∧ s.liu.classA.length < 8 ∧ modeOf? (f.at 0) = some .drive ∧
        ¬ (s.record.auth.current? = some f.source ∧ s.record.lastGrant.bind (·.holder) = some f.source ∧
          f.epoch = s.record.epoch - 1) ∧
        s.record.auth = a ∧ f.epoch ≠ s.record.epoch) ∧
    (let f := got (frame .claim 4 [2]) 5
     let s := hearing (frame .claim 4 [2]) 5 (loader (.assist 5 1 (sec 6)))
     s.TakesAsLoader f ∧ f.kind = .claim ∧ s.liu.classA.length < 8 ∧ modeOf? (f.at 0) = some .supervise ∧
       ¬ (s.record.auth.current? = some f.source ∧ s.record.lastGrant.bind (·.holder) = some f.source ∧
         f.epoch = s.record.epoch - 1) ∧
       s.record.auth = .assist 5 1 (sec 6)) := by
  unfold State.TakesAsLoader State.Receives
  refine ⟨?_, ?_, ?_, ?_⟩ <;> decide +kernel

/-- A loader that knows a senior station 5. -/
def withSenior (a : Authority) : State :=
  let s := loader a
  { s with startup := { s.startup with settings := { s.startup.settings with seniorSet := [5] } } }

theorem test_witness_ASeizeNeedsASeniorAndAStandstill :
    let f := got (frame .seize 4 [1]) 5
    (let s := hearing (frame .seize 4 [1]) 5 (loader .free)
     s.TakesAsLoader f ∧ f.kind = .seize ∧ modeOf? (f.at 0) = some .drive ∧ s.liu.classA.length < 8 ∧
       s.link.notices.length < 32 ∧ f.source ∉ s.settings.seniorSet) ∧
    (let s := hearing (frame .seize 4 [1]) 5 (withSenior .free)
     s.TakesAsLoader f ∧ s.liu.classA.length < 8 ∧ s.link.notices.length < 32 ∧ f.source ∈ s.settings.seniorSet ∧
       ¬ (s.record.auth.current? = some f.source ∧ s.record.lastGrant.bind (·.holder) = some f.source ∧
         f.epoch = s.record.epoch - 1) ∧ s.record.auth.current? = none) ∧
    (let r : Report := ⟨0xFFFF, 0, none, sec 5 - ms 1000⟩
     let s := withSenior (.held 8 .drive none)
     let s := hearing (frame .seize 4 [1]) 5 { s with link := { s.link with lastReport := some r } }
     s.TakesAsLoader f ∧ f.source ∈ s.settings.seniorSet ∧
       ¬ (s.record.auth.current? = some f.source ∧ s.record.lastGrant.bind (·.holder) = some f.source ∧
         f.epoch = s.record.epoch - 1) ∧
       s.link.lastReport = some r ∧ -1 ≤ r.speed.toInt ∧ r.speed.toInt ≤ 1 ∧
       s.now - r.arrived ≤ ms (10 * s.settings.p)) ∧
    (∀ r ∈ [(⟨2, 0, none, sec 5⟩ : Report), ⟨0, 0, none, sec 5 - ms 1000 - 1⟩],
      let s := withSenior (.held 8 .drive none)
      let s := hearing (frame .seize 4 [1]) 5 { s with link := { s.link with lastReport := some r } }
      s.TakesAsLoader f ∧ s.record.auth.current?.isSome = true ∧ s.link.lastReport = some r ∧
        (r.speed.toInt < -1 ∨ 1 < r.speed.toInt ∨ ms (10 * s.settings.p) < s.now - r.arrived)) := by
  unfold State.TakesAsLoader State.Receives
  refine ⟨?_, ?_, ?_, ?_⟩ <;> decide +kernel

theorem test_witness_AHandoverIsOfferedAcceptedWithdrawnOrReleased :
    (∀ a ∈ [Authority.held 5 .drive none, .transfer 5 .drive ⟨.pool 1, .drive, sec 6⟩],
      let f := TxFrame.make .offer 8 3 4 [1, 0x01, 0x2C]
      let s := hearing f 5 (loader a)
      s.TakesAsLoader (got f 5) ∧ s.liu.classA.length < 8 ∧ s.link.notices.length < 32 ∧
        modeOf? ((got f 5).at 0) = some .drive ∧ s.record.auth = a ∧ f.epoch = s.record.epoch ∧
        f.dest ≠ 0 ∧ f.dest ≠ 5 ∧ f.dest ≠ s.station) ∧
    (∀ p ∈ [Party.station 5, .pool 8],
      let f := frame .accept 4 [1]
      let s := hearing f 5 (loader (.transfer 8 .drive ⟨p, .drive, sec 6⟩))
      s.TakesAsLoader (got f 5) ∧ s.liu.classA.length < 8 ∧ s.link.notices.length < 32 ∧
        modeOf? ((got f 5).at 0) = some .drive ∧
        s.record.auth = .transfer 8 .drive ⟨p, .drive, sec 6⟩ ∧ (p = .station 5 ∨ p = .pool 8) ∧
        f.epoch = s.record.epoch) ∧
    (let g : Grant := ⟨4, some 5, some .drive, some 8⟩
     let f := frame .accept 3 [1]
     let s := loader (.held 5 .drive none)
     let s := hearing f 5 { s with record := { s.record with lastGrant := some g } }
     s.TakesAsLoader (got f 5) ∧ s.liu.classA.length < 8 ∧ modeOf? ((got f 5).at 0) = some .drive ∧
       s.record.auth.current? = some 5 ∧ s.record.lastGrant = some g ∧ f.epoch = s.record.epoch - 1) ∧
    (let f := frame .withdraw 4 []
     let s := hearing f 5 (loader (.transfer 5 .drive ⟨.station 8, .drive, sec 6⟩))
     s.TakesAsLoader (got f 5) ∧ s.liu.classA.length < 8 ∧ s.link.notices.length < 32 ∧
       s.record.auth = .transfer 5 .drive ⟨.station 8, .drive, sec 6⟩ ∧ f.epoch = s.record.epoch) ∧
    (let f := frame .release 4 []
     let s := hearing f 5 (loader (.orphan 5 .drive (sec 6)))
     s.TakesAsLoader (got f 5) ∧ s.liu.classA.length < 8 ∧ s.link.notices.length < 32 ∧
       s.record.auth.holder? = some 5 ∧ f.epoch = s.record.epoch) := by
  unfold State.TakesAsLoader State.Receives
  refine ⟨?_, ?_, ?_, ?_, ?_⟩ <;> decide +kernel

theorem test_witness_AFrameAboutTheHoldIsRefused_offer :
    (∀ k ∈ [FrameKind.offer, .accept, .seize],
      let f := frame k 4 ([3] ++ List.replicate (k.bodyLength - 1) 0)
      let s := hearing f 5 (loader .free)
      s.TakesAsLoader (got f 5) ∧ s.liu.classA.length < 8 ∧ modeOf? ((got f 5).at 0) = none) ∧
    (let f := frame .seize 3 [1]
     let s := withSenior (.held 5 .drive none)
     let s := hearing f 5 { s with record := { s.record with lastGrant := some ⟨4, some 5, some .drive, none⟩ } }
     s.TakesAsLoader (got f 5) ∧ modeOf? ((got f 5).at 0) ≠ none ∧ 5 ∈ s.settings.seniorSet ∧
       s.record.auth.current? = some 5 ∧ s.record.lastGrant.bind (·.holder) = some 5 ∧
       f.epoch = s.record.epoch - 1) ∧
    (∀ a ∈ [Authority.free, .held 8 .drive none, .orphan 5 .drive (sec 6)],
      let f := TxFrame.make .offer 8 3 4 [1, 0, 50]
      let s := hearing f 5 (loader a)
      s.TakesAsLoader (got f 5) ∧ modeOf? ((got f 5).at 0) ≠ none ∧ s.record.auth.current? ≠ some 5) ∧
    (let f := TxFrame.make .offer 8 3 3 [1, 0, 50]
     let s := hearing f 5 (loader (.held 5 .drive none))
     s.TakesAsLoader (got f 5) ∧ s.record.auth.current? = some 5 ∧ f.epoch ≠ s.record.epoch) ∧
    (let f := TxFrame.make .offer 8 3 4 [1, 0, 50]
     let s := hearing f 5 (loader (.assist 5 1 (sec 6)))
     s.TakesAsLoader (got f 5) ∧ s.record.auth.current? = some 5 ∧ s.record.auth.state = .assist ∧
       f.epoch = s.record.epoch) ∧
    (∀ dest ∈ [0, 5, 3],
      let f := TxFrame.make .offer dest 3 4 [1, 0, 50]
      let s := hearing f 5 (loader (.held 5 .drive none))
      s.TakesAsLoader (got f 5) ∧ s.record.auth.current? = some 5 ∧ f.epoch = s.record.epoch ∧
        (f.dest = 0 ∨ f.dest = 5 ∨ f.dest = s.station)) := by
  unfold State.TakesAsLoader State.Receives
  refine ⟨?_, ?_, ?_, ?_, ?_, ?_⟩ <;> decide +kernel

/-- Frames from station 5 about a hold of loader 3 at epoch 4: with the matching epoch, and with another. -/
def aboutTheHold : List TxFrame :=
  [frame .accept 4 [1], frame .accept 4 [2], frame .accept 5 [1], frame .release 4 [], frame .release 5 [],
    frame .clear 4 [], frame .clear 5 [], frame .withdraw 4 [], frame .withdraw 5 []]

/-- The frames name the state's own record, so every state of the record meets one clause of each kind. -/
theorem test_witness_AFrameAboutTheHoldIsRefused_accept_release_clear_withdraw :
    ∀ f ∈ aboutTheHold, ∀ a : Authority,
      let s := hearing f 5 (loader a)
      s.TakesAsLoader (got f 5) ∧ s.liu.classA.length < 8 ∧ s.record.auth = a ∧ s.record.lastGrant = none ∧
        s.record.epoch = 4 := by
  intro f hf a
  have h : ∀ f ∈ aboutTheHold, Heard f 5 ∧ f.loader = 3 := by decide +kernel
  exact ⟨takesAsLoader (h f hf).1 (by decide) (h f hf).2 _ rfl rfl rfl rfl, by show 7 < 8; decide, rfl, rfl, rfl⟩

theorem test_witness_ADeclineLeavesTheRecord :
    let f := frame .decline 4 [1]
    let s := hearing f 5 (loader (.transfer 8 .drive ⟨.station 5, .drive, sec 6⟩))
    s.TakesAsLoader (got f 5) ∧ (got f 5).kind = .decline := by
  unfold State.TakesAsLoader State.Receives; decide +kernel

theorem test_witness_AStopSetsAndAClearClearsTheLatch :
    (∀ l ∈ [0, 3],
      let f := TxFrame.make .stop 0 l 0 [1]
      let s := hearing f 5 (loader .free)
      s.Receives (got f 5) ∧ s.startup.role = .loader ∧ 5 ≠ s.station ∧ (l = s.station ∨ l = 0) ∧
        s.link.notices.length < 32) ∧
    (∀ latch ∈ [none, some StopCause.duplicate],
      let f := frame .clear 4 []
      let s := loader (.held 5 .drive none)
      let s := hearing f 5 { s with discrete := { s.discrete with latch } }
      s.TakesAsLoader (got f 5) ∧ s.record.auth.current? = some 5 ∧ f.epoch = s.record.epoch ∧
        s.discrete.stopchain.active = true ∧ s.discrete.latch = latch ∧ s.link.notices.length < 32) ∧
    (let f := frame .clear 4 []
     let s := loader (.held 5 .drive none)
     let s := hearing f 5 { s with discrete := { s.discrete with stopchain := {} } }
     s.TakesAsLoader (got f 5) ∧ s.record.auth.current? = some 5 ∧ f.epoch = s.record.epoch ∧
       s.discrete.stopchain.active = false ∧ s.liu.classA.length < 8) := by
  unfold State.TakesAsLoader State.Receives; decide +kernel

/-- A DRIVE hold that remembers a sequence taken at a moment. -/
def remembering (seq : Byte) (taken : Nat) : State :=
  let s := loader (.held 5 .drive none)
  { s with monitor := { s.monitor with remembered := some ⟨seq, taken⟩ } }

theorem test_witness_AGoodDriveFrameBecomesARecord :
    (∀ x ∈ [(frame .drive 4 [0, 0, 0, 0, 0, 7], 5), (frame .drive 3 [0, 0, 0, 0, 0, 7], 5),
        (frame .drive 4 [0, 0, 0, 0, 0, 7], 8)],
      ∀ (a : Authority) (latch : Option StopCause) (closed : Bool) (remembered : Option Remembered),
      let s0 := loader a
      let s := hearing x.1 x.2 { s0 with
        monitor := { s0.monitor with remembered }
        discrete := { s0.discrete with latch, stopchain := ⟨closed, true, none⟩ } }
      s.TakesAsLoader (got x.1 x.2) ∧ s.record.auth = a ∧ s.monitor.view = s.record.view ∧ s.record.epoch = 4 ∧
        s.discrete.latch = latch ∧ s.discrete.stopchain.active = closed ∧ s.monitor.remembered = remembered ∧
        s.now = sec 5) ∧
    (∀ seq ∈ [8, 9 - 127], 1 ≤ ((9 : Byte) - seq).toNat ∧ ((9 : Byte) - seq).toNat ≤ 127) ∧
    (∀ seq ∈ [9, 9 - 128], ¬ (1 ≤ ((9 : Byte) - seq).toNat ∧ ((9 : Byte) - seq).toNat ≤ 127)) ∧
    16 * (loader .free).settings.p = 1600 := by
  refine ⟨fun x hx a latch closed remembered => ?_, by decide, by decide, by decide⟩
  have h : ∀ x ∈ [(frame .drive 4 [0, 0, 0, 0, 0, 7], 5), (frame .drive 3 [0, 0, 0, 0, 0, 7], 5),
      (frame .drive 4 [0, 0, 0, 0, 0, 7], 8)], Heard x.1 x.2 ∧ x.2 ≠ 3 ∧ x.1.loader = 3 := by decide +kernel
  exact ⟨takesAsLoader (h x hx).1 (h x hx).2.1 (h x hx).2.2 _ rfl rfl rfl rfl, rfl, rfl, rfl, rfl, rfl, rfl, rfl⟩

theorem test_witness_AGoodSuperviseFrameSetsThePermit :
    ∀ x ∈ [(frame .supervise 4 [1], 5), (frame .supervise 4 [0], 5), (frame .supervise 3 [1], 5),
        (frame .supervise 4 [1], 8), (frame .drive 4 [0, 0, 0, 0, 0, 7], 5)],
      ∀ (a : Authority) (remembered : Option Remembered),
      let s0 := loader a
      let s := hearing x.1 x.2 { s0 with monitor := { s0.monitor with remembered } }
      s.TakesAsLoader (got x.1 x.2) ∧ s.record.auth = a ∧ s.monitor.view = s.record.view ∧
        s.relay.view = s.record.view ∧ s.record.epoch = 4 ∧ s.monitor.remembered = remembered ∧ s.now = sec 5 := by
  intro x hx a remembered
  have h : ∀ x ∈ [(frame .supervise 4 [1], 5), (frame .supervise 4 [0], 5), (frame .supervise 3 [1], 5),
      (frame .supervise 4 [1], 8), (frame .drive 4 [0, 0, 0, 0, 0, 7], 5)],
      Heard x.1 x.2 ∧ x.2 ≠ 3 ∧ x.1.loader = 3 := by decide +kernel
  exact ⟨takesAsLoader (h x hx).1 (h x hx).2.1 (h x hx).2.2 _ rfl rfl rfl rfl, rfl, rfl, rfl, rfl, rfl, rfl⟩

theorem test_witness_TheTimersOfALoaderExpire :
    (let s := loader (.transfer 5 .drive ⟨.pool 1, .drive, sec 5⟩)
     s.activeAs .loader = true ∧ s.liu.classA.length < 8 ∧ s.link.notices.length < 32 ∧
       s.record.auth = .transfer 5 .drive ⟨.pool 1, .drive, sec 5⟩) ∧
    (∀ a ∈ [Authority.held 5 .drive none, .transfer 5 .drive ⟨.pool 1, .drive, sec 6⟩, .assist 5 1 (sec 6)],
      let s := loader a
      s.activeAs .loader = true ∧ s.liu.classA.length < 8 ∧ s.link.notices.length < 32 ∧
        s.monitor.lapse = some (sec 5) ∧ s.record.auth.current? = some 5 ∧ s.record.auth.mode?.isSome = true) ∧
    (let s := loader (.orphan 5 .drive (sec 5))
     s.activeAs .loader = true ∧ s.record.auth = .orphan 5 .drive (sec 5)) ∧
    (let s := loader (.assist 5 1 (sec 5))
     s.activeAs .loader = true ∧ s.liu.classA.length < 8 ∧ s.record.auth = .assist 5 1 (sec 5)) ∧
    (let s := loader .free
     let s := { s with
       record := { s.record with statusTimer := some (sec 5) }
       discrete := { s.discrete with flash := some (sec 5) } }
     s.activeAs .loader = true ∧ s.record.statusTimer = some (sec 5) ∧ s.discrete.flash = some (sec 5)) := by
  decide +kernel

theorem test_witness_AnIntervalScoresTheSlotAndRaisesTheCap :
    (∀ a ∈ [Authority.held 5 .drive none, .transfer 5 .drive ⟨.pool 1, .drive, sec 6⟩, .held 5 .supervise none,
        .transfer 5 .supervise ⟨.pool 1, .drive, sec 6⟩, .assist 5 1 (sec 6)],
      let s := loader a
      s.activeAs .loader = true ∧ s.envelope.timer = some (sec 5) ∧ s.record.auth.current? = some 5 ∧
        s.record.auth.mode?.isSome = true ∧ s.monitor.view = s.record.view ∧ s.relay.view = s.record.view ∧
        s.monitor.lastHolderAt = some (sec 5) ∧ s.monitor.window.length = 8) ∧
    (∀ a ∈ [Authority.free, .orphan 5 .drive (sec 6)],
      let s := loader a
      s.activeAs .loader = true ∧ s.envelope.timer = some (sec 5) ∧ s.record.auth.current? = none ∧
        s.monitor.view = s.record.view) := by
  decide +kernel

theorem test_witness_TheLinkTerm :
    let s := loader (.held 5 .drive none)
    s.monitor.view.mode = some .drive ∧ s.monitor.linkFigure = 0 := by
  decide +kernel

theorem test_witness_AnAssistIsRaisedAndCancelled :
    (let s := loader (.held 5 .supervise none)
     s.Awaits (some .loader) ∧ s.record.auth = .held 5 .supervise none ∧ s.liu.classA.length < 8 ∧
       s.link.notices.length < 32 ∧ ∀ h loc n, s.record.auth ≠ .assist h loc n) ∧
    (let s := loader (.assist 5 1 (sec 6))
     s.Awaits (some .loader) ∧ s.record.auth = .assist 5 1 (sec 6) ∧ s.link.notices.length < 32 ∧
       ∀ h o, s.record.auth ≠ .held h .supervise o) := by
  unfold State.Awaits
  exact ⟨⟨by decide +kernel, rfl, by decide +kernel, by decide +kernel, fun _ _ _ h => nomatch h⟩, by decide +kernel, rfl,
    by decide +kernel, fun _ _ h => nomatch h⟩

theorem test_witness_TheMachineControllerStopsAndReports :
    (loader .free).Awaits (some .loader) ∧ (loader .free).link.notices.length < 32 := by
  unfold State.Awaits; decide +kernel

/-- A chair in FAULT-HOLD. -/
def faulty : State := inCondition .faultHold

theorem test_witness_ReadingChangesOnlyTheAlertLatches :
    (loader .free).Awaits (some .loader) ∧ chair.Awaits (some .chair) ∧ (loader .free).Awaits none ∧
      chair.Awaits none ∧ faulty.AwaitsInFault := by
  unfold State.Awaits State.AwaitsInFault; decide +kernel

/-! ### Witnesses: frames, requests and timers at a chair -/

/-- A frame to station 3 about loader 7. -/
def about7 (k : FrameKind) (epoch : Epoch) (body : List Byte) : TxFrame := TxFrame.make k 3 7 epoch body

/-- Every phase of an entry. -/
def phases : List Phase :=
  [.acquiring .new (outstanding 1), .acquiring (.modeChange .drive) (outstanding 1), .acquiring .reclaim (outstanding 1),
    .held none, .held (some ⟨.station 5, .drive⟩), offering, .releasing ⟨.release, none, 9, 1, sec 5, 1⟩, .suspended]

/-- GRANTs of loader 7: to this chair with the entry's epoch and another, to none and to another station, with this
chair or another as the previous holder. -/
def grants : List TxFrame :=
  [about7 .grant 4 [3, 1, 5], about7 .grant 9 [3, 2, 5], about7 .grant 9 [0, 1, 3], about7 .grant 9 [0, 1, 8],
    about7 .grant 9 [5, 1, 3], about7 .grant 9 [5, 1, 8]]

theorem grants_heard : ∀ f ∈ grants, Heard f 7 := by decide +kernel

theorem test_witness_AGrantEndsOrRenewsAnEntry :
    (∀ f ∈ grants, ∀ (m : Mode) (p : Phase),
      let s := hearing f 7 (spare 2 (holding m p))
      s.TakesAsChair (got f 7) ∧ s.entry? 7 = some (entry m p) ∧ s.link.notices.length < 31 ∧
        s.liu.classA.length < 8) ∧
    (∀ f ∈ grants,
      let s := hearing f 7 chair
      s.TakesAsChair (got f 7) ∧ s.entry? 7 = none ∧ s.item? 7 = none ∧ s.link.notices.length < 32 ∧
        s.liu.classA.length < 8) :=
  ⟨fun f hf _ _ => ⟨takesAsChair (grants_heard f hf) (by decide) _ rfl rfl rfl rfl, rfl, by show 30 < 31; decide,
      by show 7 < 8; decide⟩,
    fun f hf => ⟨takesAsChair (grants_heard f hf) (by decide) _ rfl rfl rfl rfl, rfl, rfl, by show 31 < 32; decide,
      by show 7 < 8; decide⟩⟩

/-- Answers to this chair about loader 7, each with its source: REFUSEs of every kind and reason that a clause tells
apart, one of them to another station; DECLINEs; and an ASSIST_CALL. -/
def answers : List (TxFrame × Nat) :=
  ([[1, 3, 0x25], [1, 5, 0x25], [5, 5, 0x25], [2, 0, 0x25], [6, 0, 0x27], [6, 5, 0x27], [2, 3, 0x27], [2, 5, 0x27],
    [1, 0, 0x27], [1, 0, 0x21], [1, 0, 0x32]].map fun body => (about7 .refuse 9 body, 7)) ++
    [(TxFrame.make .refuse 8 7 9 [1, 0, 0x25], 7), (about7 .decline 4 [1], 5), (about7 .decline 4 [1], 8),
      (TxFrame.make .decline 8 7 4 [1], 5), (about7 .assistCall 4 [0, 1], 7)]

theorem test_witness_AnAnswerReachesItsEntry :
    ∀ x ∈ answers, ∀ (m : Mode) (p : Phase),
      let s := hearing x.1 x.2 (spare 2 (holding m p))
      s.TakesAsChair (got x.1 x.2) ∧ s.entry? 7 = some (entry m p) ∧ s.link.notices.length < 31 ∧
        s.liu.classA.length < 8 := by
  intro x hx m p
  have h : ∀ x ∈ answers, Heard x.1 x.2 ∧ x.2 ≠ 3 := by decide +kernel
  exact ⟨takesAsChair (h x hx).1 (h x hx).2 _ rfl rfl rfl rfl, rfl, by show 30 < 31; decide, by show 7 < 8; decide⟩

/-- STATUS frames of loader 7 with a state, a mode, a holder and an epoch. -/
def statuses : List TxFrame :=
  [(4, 1, 3, 4), (4, 1, 3, 9), (4, 2, 3, 9), (1, 1, 3, 4), (1, 1, 3, 9), (0, 0, 0, 0), (0, 0, 0, 9), (1, 1, 5, 9),
    (1, 1, 8, 9)].map fun (x : Byte × Byte × Byte × Epoch) =>
      about7 .status x.2.2.2 [x.1, x.2.1, x.2.2.1, 0, 0, 0, 0, 0, 0, 0]

theorem statuses_heard : ∀ f ∈ statuses, Heard f 7 := by decide +kernel

theorem test_witness_AStatusOfAnOrphanSuspendsItsEntry :
    (∀ f ∈ statuses, ∀ (m : Mode) (p : Phase) (axes : Option Axes) (deadman seat : InputFilter),
      let s0 := spare 2 (holding m p)
      let s := hearing f 7 { s0 with relay := { axes }, discrete := { s0.discrete with deadman, seat } }
      s.TakesAsChair (got f 7) ∧ s.entry? 7 = some (entry m p) ∧ s.link.notices.length < 31 ∧
        s.liu.classA.length < 8 ∧ s.relay.axes = axes ∧ s.discrete.deadman = deadman ∧ s.discrete.seat = seat ∧
        s.now = sec 5) ∧
    (statuses.take 3).all (fun f => (got f 7).at 0 == 4 && (got f 7).at 2 == 3 && (modeOf? ((got f 7).at 1)).isSome) ∧
    ms (3 * chair.settings.p) = ms 300 :=
  ⟨fun f hf _ _ _ _ _ => ⟨takesAsChair (statuses_heard f hf) (by decide) _ rfl rfl rfl rfl, rfl, by show 30 < 31; decide,
      by show 7 < 8; decide, rfl, rfl, rfl, rfl⟩, by decide, rfl⟩

theorem test_witness_AStatusIsComparedWithItsEntry :
    (∀ f ∈ statuses, ∀ (m : Mode) (p : Phase),
      let s := hearing f 7 (spare 3 (holding m p))
      s.TakesAsChair (got f 7) ∧ s.entry? 7 = some (entry m p) ∧ s.link.notices.length < 30 ∧
        s.liu.classA.length < 8) ∧
    (∀ f ∈ statuses,
      let s := hearing f 7 chair
      s.TakesAsChair (got f 7) ∧ s.entry? 7 = none ∧ s.link.notices.length < 32 ∧ s.liu.classA.length < 8) ∧
    (statuses.drop 3).all (fun f => (got f 7).at 0 != 4) :=
  ⟨fun f hf _ _ => ⟨takesAsChair (statuses_heard f hf) (by decide) _ rfl rfl rfl rfl, rfl, by show 29 < 30; decide,
      by show 7 < 8; decide⟩,
    fun f hf => ⟨takesAsChair (statuses_heard f hf) (by decide) _ rfl rfl rfl rfl, rfl, by show 31 < 32; decide,
      by show 7 < 8; decide⟩, by decide⟩

/-- Eight items for loaders 21 to 28, the first of them presented, the others of a kind. -/
def fullBoard (k : ItemKind) : List Item :=
  let first : Item := ⟨21, .namedOffer 5, .drive, 4, sec 6, true⟩
  first :: [22, 23, 24, 25, 26, 27, 28].map fun n => { first with loader := n, kind := k, presented := false }

/-- The offers and the assist call about loader 7 that a chair in pool 1 takes as items. -/
def heardItems : List (TxFrame × ItemKind) :=
  [(about7 .offer 4 [1, 0x01, 0x2C], .namedOffer 5), (TxFrame.make .offer 65 7 4 [1, 0, 0], .poolOffer 5 1),
    (TxFrame.make .assistCall 65 7 4 [0, 9], .assist 1 9)]

theorem test_witness_ANewcomerIsBoardedAndPresented :
    (∀ x ∈ heardItems,
      let s := hearing x.1 5 (spare 2 nearlyFull)
      s.TakesAsChair (got x.1 5) ∧ (s.heardItem? (got x.1 5)).map (·.kind) = some x.2 ∧ s.holds.posture = .active ∧
        s.entry? 7 = none ∧ s.item? 7 = none ∧ s.holds.entries.length < 6 ∧ s.link.notices.length < 31 ∧
        s.board.items = []) ∧
    (let s := hearing (about7 .offer 4 [1, 0x01, 0x2C]) 5
       { spare 2 nearlyFull with board := { items := (fullBoard (.namedOffer 5)).take 7 } }
     s.TakesAsChair (got (about7 .offer 4 [1, 0x01, 0x2C]) 5) ∧ s.item? 7 = none ∧ s.presented?.isSome = true ∧
       s.board.items.length < 8) ∧
    (∀ f ∈ [about7 .offer 4 [3, 0, 50], TxFrame.make .offer 3 0 4 [1, 0, 50], TxFrame.make .offer 66 7 4 [1, 0, 50],
        TxFrame.make .assistCall 0 7 4 [0, 9]],
      let s := hearing f 5 chair
      s.TakesAsChair (got f 5) ∧ s.entry? (got f 5).loader = none ∧ s.heardItem? (got f 5) = none) := by
  unfold State.TakesAsChair State.Receives
  refine ⟨?_, ?_, ?_⟩ <;> decide +kernel

theorem test_witness_AnItemIsDeclinedReplacedOrDisplaces :
    (∀ x ∈ heardItems, ∀ (holds : Holds) (board : Board),
      let s := hearing x.1 5 { spare 4 chair with holds, board }
      s.TakesAsChair (got x.1 5) ∧ (s.heardItem? (got x.1 5)).map (·.kind) = some x.2 ∧ s.holds = holds ∧
        s.board = board ∧ s.link.notices.length < 29 ∧ s.liu.classA.length < 8) ∧
    (∀ x ∈ heardItems,
      ({ items := fullBoard (.poolOffer 5 1) } : Board).displaced? x.2.level =
        if x.2.level < 3 then some { item (.poolOffer 5 1) .drive with
          loader := 22, deadline := sec 6, presented := false } else none) := by
  refine ⟨fun x hx holds board => ?_, by decide +kernel⟩
  have h : ∀ x ∈ heardItems, Heard x.1 5 ∧ (chair.heardItem? (got x.1 5)).map (·.kind) = some x.2 := by decide +kernel
  exact ⟨takesAsChair (h x hx).1 (by decide) _ rfl rfl rfl rfl, (h x hx).2, rfl, rfl, by show 28 < 29; decide,
    by show 7 < 8; decide⟩

theorem test_witness_AnItemIsDeclinedReplacedOrDisplaces_tables :
    { nearlyFull with board := { items := fullBoard (.poolOffer 5 1) } }.TablesSound :=
  ⟨by decide +kernel, by decide +kernel, by decide +kernel, by unfold Board.Presents; decide +kernel, by decide +kernel,
    by decide +kernel, by intro g h _; cases h⟩

theorem test_witness_StandUpMakesThePostureActive :
    chair.Awaits (some .chair) ∧ chair.holds.posture = .active ∧
      (∀ p ∈ [Posture.vacant, .standingDown], { chair with holds := { posture := p } }.holds.posture ≠ .active) ∧
      { chair with holds := { posture := .vacant } }.Awaits (some .chair) ∧ chair.link.notices.length < 32 := by
  unfold State.Awaits; decide +kernel

theorem test_witness_StandDownEmptiesTheBoard :
    (spare 2 chair).Awaits (some .chair) ∧ (spare 2 chair).link.notices.length < 31 := by
  unfold State.Awaits; decide +kernel

/-- The chair with the supervisor's right. -/
def senior (s : State) : State :=
  { s with startup := { s.startup with settings := { s.startup.settings with senior := true } } }

theorem test_witness_AClaimOrASeizeIsCheckedAndCarriedOut :
    (∀ l ∈ [(1 : Byte), 63], ∀ items ∈ [[], [{ item (.namedOffer 5) .drive with loader := l.toNat }]],
      let s := { senior (spare 2 nearlyFull) with board := { items } }
      s.Awaits (some .chair) ∧ isStation l = true ∧ l.toNat ≠ s.station ∧ s.settings.senior = true ∧
        s.holds.posture = .active ∧ s.discrete.stopchain.active = true ∧ s.entry? l.toNat = none ∧
        s.holds.entries.length < 6 ∧ s.board.gesture = none ∧ (∀ e ∈ s.holds.entries, e.mode ≠ .drive) ∧
        s.liu.classA.length < 8 ∧ s.link.notices.length < 31) ∧
    (∀ l ∈ [(0 : Byte), 64, 3], ¬ (isStation l = true ∧ l.toNat ≠ chair.station)) ∧
    (chair.Awaits (some .chair) ∧ chair.settings.senior = false) ∧
    (∀ p ∈ [Posture.vacant, .standingDown],
      { senior chair with holds := { posture := p } }.Awaits (some .chair)) ∧
    (let s := { senior chair with discrete := {} }
     s.Awaits (some .chair) ∧ s.holds.posture = .active ∧ s.discrete.stopchain.active = false) ∧
    (let s := { chair with holds := { posture := .active, entries := [11, 12, 13, 14, 15, 16].map fun n =>
       { entry .supervise (.held none) with loader := n } } }
     s.Awaits (some .chair) ∧ s.entry? 7 = none ∧ 6 ≤ s.holds.entries.length) ∧
    (let s := holding .drive (.held none)
     s.Awaits (some .chair) ∧ s.entry? 8 = none ∧ (∃ e ∈ s.holds.entries, e.mode = .drive ∧ e.loader ≠ 8) ∧
       s.entry? 7 = some (entry .drive (.held none)) ∧ (entry .drive (.held none)).phase ≠ .suspended) ∧
    (let s := { nearlyFull with board := { gesture := some ⟨9, .claim, sec 6⟩ } }
     s.Awaits (some .chair) ∧ s.entry? 7 = none ∧ s.holds.entries.length < 6 ∧
       (∀ e ∈ s.holds.entries, e.mode ≠ .drive) ∧ s.board.gesture ≠ none) := by
  unfold State.Awaits
  refine ⟨?_, ?_, ?_, ?_, ?_, ?_, ?_, ?_⟩ <;> decide +kernel

theorem test_witness_ADriveRequestArmsTheGesture :
    (nearlyFull.Awaits (some .chair) ∧ isStation 7 = true ∧ 7 ≠ nearlyFull.station ∧
      nearlyFull.board.gesture = none ∧ (∀ e ∈ nearlyFull.holds.entries, e.loader ≠ 7 → e.mode ≠ .drive) ∧
      nearlyFull.holds.posture = .active ∧ nearlyFull.discrete.stopchain.active = true ∧
      nearlyFull.entry? 7 = none ∧ nearlyFull.holds.entries.length < 6) ∧
    (let s := holding .drive .suspended
     s.Awaits (some .chair) ∧ s.board.gesture = none ∧ (∀ e ∈ s.holds.entries, e.loader ≠ 7 → e.mode ≠ .drive) ∧
       s.entry? 7 = some (entry .drive .suspended)) ∧
    (let s := holding .supervise (.held none)
     s.Awaits (some .chair) ∧ s.entry? 7 = some (entry .supervise (.held none))) ∧
    (let s := { nearlyFull with board := { items := [item (.namedOffer 5) .drive] } }
     s.Awaits (some .chair) ∧ s.presented? = some (item (.namedOffer 5) .drive) ∧ s.holds.entries.length < 6) ∧
    (let s := { chair with board := { gesture := some ⟨7, .claim, sec 5⟩ } }
     s.activeAs .chair = true ∧ s.board.gesture = some ⟨7, .claim, sec 5⟩ ∧ s.link.notices.length < 32) := by
  unfold State.Awaits
  refine ⟨?_, ?_, ?_, ?_, ?_⟩ <;> decide +kernel

/-- A state with the sticks at rest, their axes as old as they may be. -/
def atRest (s : State) : State := { s with relay := { s.relay with axes := some ⟨5, -5, 5, 0, sec 5 - ms 300⟩ } }

/-- A state with a gesture armed for loader 7. -/
def armed (r : GestureRequest) (s : State) : State :=
  { s with board := { s.board with gesture := some ⟨7, r, sec 5⟩ } }

theorem test_witness_AConfirmedGestureIsCarriedOut :
    (∀ x ∈ [(GestureRequest.claim, nearlyFull), (.reclaim, holding .drive .suspended),
        (.setMode, holding .supervise (.held none)),
        (.acceptItem, { nearlyFull with board := { items := [item (.namedOffer 5) .drive] } })],
      let s := armed x.1 (atRest (spare 3 x.2))
      let a : Axes := ⟨5, -5, 5, 0, sec 5 - ms 300⟩
      s.activeAs .chair = true ∧ s.discrete.confirm.active = false ∧ s.board.gesture = some ⟨7, x.1, sec 5⟩ ∧
        s.discrete.seat.active = true ∧ s.discrete.deadman.active = true ∧ s.relay.axes = some a ∧
        s.now - a.arrived ≤ ms (3 * s.settings.p) ∧ a.steer.natAbs ≤ 5 ∧ a.travel.natAbs ≤ 5 ∧ a.boom.natAbs ≤ 5 ∧
        a.bucket.natAbs ≤ 5 ∧ (∀ e ∈ s.holds.entries, e.loader ≠ 7 → e.mode ≠ .drive) ∧ s.liu.classA.length < 8 ∧
        s.link.notices.length < 30 ∧ s.holds.posture = .active ∧ s.discrete.stopchain.active = true ∧
        s.holds.entries.length < 6) ∧
    (nearlyFull.entry? 7 = none ∧ (∀ e ∈ nearlyFull.holds.entries, e.mode ≠ .drive) ∧
      (holding .drive .suspended).entry? 7 = some (entry .drive .suspended) ∧
      (holding .supervise (.held none)).entry? 7 = some (entry .supervise (.held none)) ∧
      (boarded (.namedOffer 5) .drive).presented? = some (item (.namedOffer 5) .drive)) := by
  refine ⟨?_, ?_⟩ <;> decide +kernel

theorem test_witness_AGestureFailsOrIsAbandoned :
    (let s := spare 3 chair
     s.activeAs .chair = true ∧ s.discrete.confirm.active = false ∧ s.board.gesture = none ∧
       s.link.notices.length < 30) ∧
    (∀ x ∈ [(({} : InputFilter), chair.discrete.deadman), (chair.discrete.seat, ({} : InputFilter))],
      let s := armed .claim (spare 3 { chair with discrete := { chair.discrete with seat := x.1, deadman := x.2 } })
      s.activeAs .chair = true ∧ s.discrete.confirm.active = false ∧ s.board.gesture = some ⟨7, .claim, sec 5⟩ ∧
        (s.discrete.seat.active = false ∨ s.discrete.deadman.active = false)) ∧
    (∀ a ∈ [(⟨0, 0, 0, 0, sec 5 - ms 300 - 1⟩ : Axes), ⟨0, 6, 0, 0, sec 5⟩, ⟨0, 0, 0, -6, sec 5⟩],
      let s := { armed .claim (spare 3 chair) with relay := { axes := some a } }
      s.activeAs .chair = true ∧ s.discrete.seat.active = true ∧ s.discrete.deadman.active = true ∧
        s.relay.axes = some a ∧ (ms (3 * s.settings.p) < s.now - a.arrived ∨
          ¬ (a.steer.natAbs ≤ 5 ∧ a.travel.natAbs ≤ 5 ∧ a.boom.natAbs ≤ 5 ∧ a.bucket.natAbs ≤ 5))) ∧
    (∀ r ∈ [GestureRequest.claim, .reclaim, .setMode], ∀ e ∈ phases.map (entry .supervise), ∀ p ∈ [Posture.vacant, .active],
      let s := armed r (atRest (spare 3 { chair with holds :=
        { posture := p, entries := [e, { entry .drive .suspended with loader := 8 }] } }))
      s.activeAs .chair = true ∧ s.discrete.confirm.active = false ∧ s.board.gesture = some ⟨7, r, sec 5⟩ ∧
        s.discrete.seat.active = true ∧ s.discrete.deadman.active = true ∧ s.entry? 7 = some e ∧
        (∃ x ∈ s.holds.entries, x.mode = .drive ∧ x.loader ≠ 7) ∧ s.holds.posture = p) ∧
    (let s := armed .acceptItem (atRest (spare 3 (boarded (.namedOffer 5) .drive)))
     let s := { s with discrete := { s.discrete with stopchain := {} } }
     s.activeAs .chair = true ∧ s.discrete.confirm.active = false ∧ s.holds.posture = .active ∧
       s.presented? = some (item (.namedOffer 5) .drive) ∧ s.discrete.stopchain.active = false) := by
  refine ⟨?_, ?_, ?_, ?_, ?_⟩ <;> decide +kernel

theorem test_witness_SetModeAndTheManualReclaimClaimAgain :
    (∀ m ∈ [Mode.drive, .supervise], ∀ p ∈ phases,
      let s := holding m p
      s.Awaits (some .chair) ∧ isStation 7 = true ∧ 7 ≠ s.station ∧ s.entry? 7 = some (entry m p) ∧
        s.liu.classA.length < 8 ∧ s.holds.posture = .active ∧ s.discrete.stopchain.active = true ∧
        s.board.gesture = none ∧ (∀ e ∈ s.holds.entries, ¬ (e.mode = .drive ∧ e.loader ≠ 7)) ∧ s.entry? 8 = none) ∧
    (∀ p ∈ [Phase.held none, .suspended], ∀ gesture ∈ [none, some ⟨9, .claim, sec 6⟩],
      let s := { chair with
        holds := { posture := .standingDown
                   entries := [entry .supervise p, { entry .drive .suspended with loader := 8 }] }
        board := { gesture } }
      s.Awaits (some .chair) ∧ s.entry? 7 = some (entry .supervise p) ∧
        (∃ e ∈ s.holds.entries, e.mode = .drive ∧ e.loader ≠ 7) ∧ (1 : Byte) ≠ modeCode (entry .supervise p).mode) ∧
    (let s := armed .claim (holding .supervise (.held none))
     s.Awaits (some .chair) ∧ s.entry? 7 = some (entry .supervise (.held none)) ∧ s.board.gesture ≠ none) := by
  unfold State.Awaits
  refine ⟨?_, ?_, ?_⟩ <;> decide +kernel

theorem test_witness_OffersWithdrawalsAndReleasesFollowThePhase :
    (∀ p ∈ phases,
      let s := holding .drive p
      s.Awaits (some .chair) ∧ isStation 7 = true ∧ 7 ≠ s.station ∧ s.entry? 7 = some (entry .drive p) ∧
        s.liu.classA.length < 8 ∧ s.entry? 8 = none) ∧
    (∀ target ∈ [(1 : Byte), 63, 65, 72], (isStation target = true ∧ target.toNat ≠ chair.station ∧ target ≠ 7) ∨
      (65 ≤ target.toNat ∧ target.toNat ≤ 72)) ∧
    (∀ target ∈ [(0 : Byte), 3, 7, 64, 73],
      ¬ ((isStation target = true ∧ target.toNat ≠ chair.station ∧ target ≠ 7) ∨
        (65 ≤ target.toNat ∧ target.toNat ≤ 72))) ∧
    modeOf? 1 = some .drive := by
  unfold State.Awaits; decide +kernel

theorem test_witness_PauseAndResumeSetTheContinueFlag :
    (∀ p ∈ [Phase.held none, offering, .suspended, .acquiring .new (outstanding 1), .releasing (outstanding 1)],
      let s := holding .supervise p
      s.Awaits (some .chair) ∧ isStation 7 = true ∧ 7 ≠ s.station ∧ s.entry? 7 = some (entry .supervise p)) ∧
    (holding .drive (.held none)).entry? 7 = some (entry .drive (.held none)) := by
  unfold State.Awaits; decide +kernel

theorem test_witness_TheTimersOfAnEntryExpire :
    (∀ attempts ∈ [3, 4], ∀ p ∈ [Phase.acquiring .new (outstanding attempts), .releasing (outstanding attempts)],
      let s := spare 2 (holding .drive p)
      s.activeAs .chair = true ∧ s.entry? 7 = some (entry .drive p) ∧
        ((outstanding attempts).attempts < 4 ↔ attempts = 3) ∧ s.liu.classA.length < 8 ∧
        s.link.notices.length < 31) ∧
    (let s := holding .drive offering
     s.activeAs .chair = true ∧ s.entry? 7 = some (entry .drive offering) ∧
       (entry .drive offering).absence = some (sec 5) ∧ s.link.notices.length < 32) := by
  decide +kernel

theorem test_witness_AnItemLeavesTheBoard :
    (isStation 7 = true ∧ ∀ k ∈ [ItemKind.namedOffer 5, .poolOffer 5 1, .assist 1 2], ∀ m ∈ [Mode.drive, .supervise],
      ∀ others ∈ [[], (fullBoard k).tail],
      let s := { spare 3 nearlyFull with board := { items := item k m :: others } }
      s.activeAs .chair = true ∧ s.item? 7 = some (item k m) ∧ s.presented? = some (item k m) ∧
        s.Awaits (some .chair) ∧ s.link.notices.length < 30 ∧ s.liu.classA.length < 8 ∧ s.holds.posture = .active ∧
        s.discrete.stopchain.active = true ∧ s.discrete.seat.active = true ∧ s.holds.entries.length < 6) ∧
    (∀ presented ∈ [true, false], ∀ source ∈ [5, 8],
      let i := { item (.namedOffer 5) .drive with presented }
      let s0 := { spare 3 chair with board := { items := [i] } }
      let f := about7 .grant 4 [5, 1, 0]
      let g := about7 .withdraw 4 []
      (hearing f 7 s0).TakesAsChair (got f 7) ∧ (hearing f 7 s0).entry? 7 = none ∧
        (hearing f 7 s0).item? 7 = some i ∧ (hearing g source s0).TakesAsChair (got g source) ∧
        (i.kind.offering? = some (got g source).source ↔ source = 5)) := by
  unfold State.Awaits State.TakesAsChair State.Receives
  refine ⟨⟨?_, ?_⟩, ?_⟩ <;> decide +kernel

/-- Boards and chairs that fail each check of R93 and R96 alone. -/
theorem test_witness_AnItemLeavesTheBoard_refusals :
    (isStation 0 = false ∧ isStation 64 = false ∧ isStation 7 = true ∧ chair.presented? = none) ∧
    (∀ p ∈ [Posture.vacant, .standingDown],
      { chair with holds := { posture := p } }.Awaits (some .chair)) ∧
    ({ chair with discrete := {} }.Awaits (some .chair) ∧ chair.Awaits (some .chair) ∧
      chair.discrete.stopchain.active = true ∧ chair.discrete.seat.active = true) ∧
    (let s := boarded (.namedOffer 5) .drive
     s.Awaits (some .chair) ∧ s.presented? = some (item (.namedOffer 5) .drive) ∧ s.holds.entries = []) ∧
    (let e (m : Mode) (n : Nat) : Entry := { entry m (.held none) with loader := n }
     ∀ x ∈ [([11, 12, 13, 14, 15, 16].map (e .supervise), Mode.drive, none, true), ([e .drive 8], .drive, none, true),
         ([], .drive, some ⟨9, .claim, sec 6⟩, true), ([], .supervise, none, false)],
       let s := { boarded (.namedOffer 5) x.2.1 with
         holds := { posture := .active, entries := x.1 }
         board := { items := [item (.namedOffer 5) x.2.1], gesture := x.2.2.1 }
         discrete := { chair.discrete with seat := ⟨x.2.2.2, true, none⟩ } }
       s.Awaits (some .chair) ∧ s.presented? = some (item (.namedOffer 5) x.2.1) ∧ s.board.gesture = x.2.2.1 ∧
         s.discrete.seat.active = x.2.2.2 ∧ s.holds.entries = x.1) := by
  unfold State.Awaits
  refine ⟨?_, ?_, ?_, ?_, ?_⟩ <;> decide +kernel

theorem test_witness_AnItemLeavesTheBoard_tables :
    (boarded (.namedOffer 5) .drive).TablesSound :=
  ⟨by decide +kernel, by decide +kernel, by decide +kernel, by unfold Board.Presents; decide +kernel, by decide +kernel,
    by decide +kernel, by intro g h _; cases h⟩

theorem test_witness_AxesReplaceTheLatestAxes :
    chair.Awaits (some .chair) ∧ (loader .free).startup.role = .loader ∧ (loader .free).Awaits (some .loader) := by
  unfold State.Awaits; decide +kernel

theorem test_witness_TheRelayDrivesAndSupervises :
    (∀ p ∈ [Phase.held none, offering, .releasing (outstanding 1), .acquiring .new (outstanding 1), .suspended],
      ∀ age ∈ [ms 300, ms 300 + 1],
        let s := holding .drive p
        let s := { s with relay := { axes := some ⟨1, 2, 3, 4, sec 5 - age⟩, driveTimer := some (sec 5) } }
        s.activeAs .chair = true ∧ s.relay.driveTimer = some (sec 5) ∧ s.driveEntry? = some (entry .drive p) ∧
          s.relay.axes = some ⟨1, 2, 3, 4, sec 5 - age⟩ ∧
          (s.now - (sec 5 - age) ≤ ms (3 * s.settings.p) ↔ age = ms 300)) ∧
    (nearlyFull.driveEntry? = none) ∧
    (let s := holding .supervise (.held none)
     s.activeAs .chair = true ∧ s.entry? 7 = some (entry .supervise (.held none)) ∧
       (entry .supervise (.held none)).supervise = some (sec 5)) := by
  decide +kernel

/-! ### Witnesses: the discrete lines -/

theorem test_witness_AFilteredEdgeIsDelivered :
    (∀ f ∈ [(⟨true, true, some ⟨false, 2⟩⟩ : InputFilter), ⟨false, false, some ⟨false, 2⟩⟩],
      let s := spare 2 { loader .free with discrete := { stopchain := f } }
      s.activeAs .loader = true ∧ (s.discrete.stopchain.active = true ∨ s.discrete.stopchain.settled = false) ∧
        s.link.notices.length < 31) ∧
    (let s := { loader .free with discrete := {} }
     s.activeAs .loader = true ∧ s.discrete.stopchain.active = false ∧ s.link.notices.length < 32) ∧
    (∀ x ∈ [(Input.deadman, true), (.deadman, false), (.stopchain, true), (.seat, true), (.confirm, false)],
      let s := { chair with discrete := chair.discrete.setFilter x.1 ⟨!x.2, true, none⟩ }
      s.activeAs .chair = true ∧ (s.discrete.filter x.1).active ≠ x.2 ∧ s.link.notices.length < 32) ∧
    (∀ outstanding ∈ [true, false], ∀ f ∈ [chair.discrete.stopchain, {}], ∀ n ∈ [0, 17, 18, 32],
      let stopList : List StopEntry := List.replicate n ⟨9, 1, sec 6⟩ ++ List.replicate 5 ⟨9, 2, sec 6⟩
      let s := { nearlyFull with discrete := { chair.discrete with
        stopchain := f, stopOutstanding := outstanding, stopList } }
      s.activeAs .chair = true ∧ (s.discrete.stopchain.active = true ∨ s.discrete.stopchain.settled = false) ∧
        s.discrete.stopOutstanding = outstanding ∧ s.liu.classS.length < 2 ∧ s.link.notices.length < 32 ∧
        (s.discrete.stopList.filter (·.reason ≠ 2)).length = n ∧ s.holds.entries.length = 5) ∧
    (∀ p ∈ phases, ∀ outstanding ∈ [true, false], ∀ n ∈ [0, 31, 32],
      let s := holding .drive p
      let s := { s with discrete := { s.discrete with
        stopOutstanding := outstanding, stopList := List.replicate n ⟨9, 1, sec 6⟩ } }
      s.activeAs .chair = true ∧ s.discrete.seat.active = true ∧ s.driveEntry? = some (entry .drive p) ∧
        s.discrete.stopOutstanding = outstanding ∧ s.discrete.stopList.length = n ∧ s.liu.classS.length < 2 ∧
        s.link.notices.length < 32) ∧
    nearlyFull.driveEntry? = none := by
  refine ⟨?_, ?_, ?_, ?_, ?_, ?_⟩ <;> decide +kernel

/-- Every filter of a part that samples, alone of its inputs, at the first, second and third equal sample, at a third of
the state it has, and at STOPCHAIN settling open: the other filters have no run, so none of them turns. -/
theorem test_witness_ASampleMovesTheFilters :
    (∀ (f : InputFilter) (s : State), s = chair ∨ s = loader .free → ∀ i, (s = chair ∨ i = .stopchain) →
      let t := { s with discrete := Discrete.setFilter i f { nextSample := some (sec 5) } }
      t.active = true ∧ t.discrete.nextSample = some (sec 5) ∧ t.discrete.filter i = f ∧
        ∀ j, j ≠ i → ∀ v, ¬ (t.discrete.filter j).Turns j v) ∧
    (∀ (i : Input) (v : Bool), InputFilter.Turns i v ⟨!v, true, some ⟨v, 2⟩⟩) ∧
    InputFilter.Turns .stopchain false ⟨false, false, some ⟨false, 2⟩⟩ ∧
    (∀ (i : Input) (v : Bool), ∀ r ∈ [none, some ⟨!v, 3⟩, some ⟨v, 1⟩], ¬ InputFilter.Turns i v ⟨!v, true, r⟩) ∧
    (∀ (i : Input) (v : Bool), ¬ InputFilter.Turns i v ⟨v, true, some ⟨v, 2⟩⟩) := by
  refine ⟨?_, fun i v => ⟨⟨_, rfl, rfl, Nat.le_refl 2⟩, .inl (by cases v <;> decide)⟩,
    ⟨⟨_, rfl, rfl, Nat.le_refl 2⟩, .inr ⟨rfl, rfl, rfl⟩⟩, ?_, ?_⟩
  · rintro f s (rfl | rfl) i -
    all_goals
      cases i <;> refine ⟨rfl, rfl, rfl, ?_⟩ <;>
        (intro j hj v ⟨⟨r, h, _⟩, _⟩; cases j <;> first | exact hj rfl | cases h)
  · intro i v r hr ⟨⟨x, h, hv, hc⟩, _⟩
    simp only [List.mem_cons, List.not_mem_nil, or_false] at hr
    rcases hr with rfl | rfl | rfl <;> cases h
    · cases v <;> cases hv
    · exact absurd (show 2 ≤ 1 from hc) (by decide)
  · intro i v ⟨_, h⟩
    rcases h with h | ⟨_, h, _⟩
    · exact h rfl
    · cases h

theorem test_witness_StopsAndClearsAreGivenToTheLine :
    (isStation 0 = false ∧ isStation 64 = false ∧ isStation 1 = true ∧ isStation 63 = true ∧
      chair.Awaits (some .chair) ∧ 1 ≠ chair.station ∧ 63 ≠ chair.station) ∧
    (∀ waiting ∈ [[], [⟨9, 1, sec 4⟩], [⟨9, 1, sec 6⟩], List.replicate 31 ⟨9, 1, sec 6⟩, List.replicate 32 ⟨9, 1, sec 6⟩],
      ∀ outstanding ∈ [true, false],
      let s := { chair with discrete := { chair.discrete with stopList := waiting, stopOutstanding := outstanding } }
      s.Awaits (some .chair) ∧ s.discrete.stopOutstanding = outstanding ∧ s.liu.classS.length < 2 ∧
        insertStop ⟨7, 1, s.now⟩ s.discrete.stopList ≠ [] ∧ (32 ≤ s.discrete.stopList.length ↔ waiting.length = 32)) ∧
    (let s := { chair with discrete := { stopList := [⟨9, 1, sec 6⟩] } }
     s.activeAs .chair = true ∧ s.discrete.stopOutstanding = false ∧ s.discrete.stopList = [⟨9, 1, sec 6⟩] ∧
       s.liu.classS.length < 2) ∧
    (∀ p ∈ [Phase.held none, offering], ∀ unsent ∈ [false, true], ∀ chain ∈ [{}, chair.discrete.stopchain],
      let s := holding .drive p
      let s := { s with discrete := { s.discrete with clearUnsent := unsent, stopchain := chain } }
      s.Awaits (some .chair) ∧ s.entry? 7 = some (entry .drive p) ∧ s.entry? 8 = none ∧
        s.discrete.stopchain = chain ∧ s.discrete.clearUnsent = unsent ∧ s.liu.classS.length < 2) := by
  unfold State.Awaits
  refine ⟨?_, ?_, ?_, ?_⟩ <;> decide +kernel

/-! ### Witnesses: the queue, the Local Link and start-up -/

theorem test_witness_AFrameWithoutRoomIsDropped :
    (let s := { chair with liu := { classS := List.replicate 2 (frame .stop 0 [1]) } }
     s.active = true ∧ (frame .clear 4 []).kind.frameClass = .s ∧ s.liu.classS.length = 2) ∧
    (let s := { chair with liu := { classA := List.replicate 8 (frame .claim 0 [1]) } }
     s.active = true ∧ (frame .accept 4 [1]).kind.frameClass = .a ∧ s.liu.classA.length = 8 ∧
       ∀ g ∈ s.liu.classA, g.kind ≠ .assistCall) ∧
    (let rest := List.replicate 3 (frame .grant 0 [1, 1, 1])
     let all := List.replicate 4 (frame .refuse 0 [1, 1, 1]) ++ frame .assistCall 0 [0, 1] :: rest
     let s := { loader .free with liu := { classA := all } }
     s.active = true ∧ s.liu.classA = List.replicate 4 (frame .refuse 0 [1, 1, 1]) ++ frame .assistCall 0 [0, 1] :: rest ∧
       s.liu.classA.length = 8 ∧ ∀ x ∈ List.replicate 4 (frame .refuse 0 [1, 1, 1]), x.kind ≠ .assistCall) := by
  decide +kernel

theorem test_witness_BadMessagesAreDiscardedAndBusyRequestsTurnedAway :
    chair.inService = true ∧ chair.link.receiver = .hunt ∧ (0x5A : Byte) ≠ 0xA5 ∧
      (Receiver.length (sec 5)).lastByte? = some (sec 5) ∧
      (let s := { chair with link := { slotBusy := true, linkErrors := 255 } }
       s.inService = true ∧ s.link.slotBusy = true ∧ s.link.busyStream = []) ∧
      (let s := { chair with link := { slotBusy := true, waiting := [.busy ⟨0x81, 1, [1, 0]⟩] } }
       s.inService = true ∧ s.link.slotBusy = true ∧ .busy ⟨0x81, 1, [1, 0]⟩ ∈ s.link.waiting) := by
  decide +kernel

theorem test_witness_FlagsMaskCreditAndMark :
    (chair.Awaits none ∧ faulty.AwaitsInFault ∧ faulty.startup.condition = .faultHold) ∧
    (let s := { chair with link := { tx := some ⟨.notice, ⟨0x41, 1, []⟩, sec 5⟩, credit := 255 } }
     s.Awaits none ∧ s.link.tx.isSome = true) ∧
    (chair.Awaits none ∧ chair.link.tx = none ∧ chair.link.unsentRecord = none ∧ chair.link.waiting = [] ∧
      chair.link.notices = .present 9 :: List.replicate 30 (.present 9) ∧ 0 < chair.link.credit + 1) ∧
    (∀ x ∈ [([], 255), ([], 0), ([.present 9], 0)],
      let s := { chair with link := { notices := x.1, credit := x.2 } }
      s.Awaits none ∧ s.link.tx = none ∧ s.link.unsentRecord = none ∧ s.link.waiting = [] ∧
        (s.link.notices = [] ∨ s.link.credit + 0 = 0)) ∧
    (let s := { chair with link := { mark := some 1 } }
     s.Awaits none ∧ s.link.mark.isSome = true) ∧
    (let s := { chair with link := {} }
     s.Awaits none ∧ s.link.mark = none ∧ s.link.noticeStream = []) ∧
    (chair.link.mark = none ∧ chair.link.noticeStream ≠ []) := by
  unfold State.Awaits State.AwaitsInFault
  refine ⟨?_, ?_, ?_, ?_, ?_, ?_, ?_⟩ <;> decide +kernel

theorem test_witness_AMessageSentMakesWayForTheNextOrForARestart :
    (chair.Awaits none ∧ faulty.AwaitsInFault) ∧
    (∀ r ∈ [RequestedRestart.soft, .full],
      let x : Transmission := ⟨.response, ⟨0x87, 1, [0, 0]⟩, sec 5⟩
      let s := { underCarrier chair with link := { tx := some x, slotBusy := true, restart := some r } }
      s.inService = true ∧ s.link.tx = some x ∧ x.what = .response ∧ s.link.parts = [] ∧ s.link.restart = some r ∧
        s.startup.condition = .running) ∧
    (∀ (x : Transmission) (parts : List Message) (waiting : List Waiting) (restart : Option RequestedRestart)
      (unsentRecord : Option CommandRecord) (notices : List Notice) (credit : Nat) (mark : Option Nat),
      restart = none ∨ parts ≠ [] →
      let s := { loader .free with link := {
        tx := some x, slotBusy := true, parts, waiting, restart, unsentRecord, notices, credit, mark } }
      s.inService = true ∧ s.link.tx = some x ∧
        (s.link.restart = none ∨ (s.link.slotBusy = true ∧ ¬ (x.what = .response ∧ s.link.parts = [])))) := by
  unfold State.Awaits State.AwaitsInFault
  exact ⟨by decide +kernel, by decide +kernel, fun x parts waiting restart unsentRecord notices credit mark h =>
    ⟨rfl, rfl, h.imp id fun h => ⟨rfl, fun e => h e.2⟩⟩⟩

theorem test_witness_ARequestIsCheckedBeforeItIsCarriedOut :
    requestMessage? (.axes 1 2 3 4 5) = some (⟨0x10, 1, [2, 0, 3, 4, 5]⟩, some .chair) ∧
    (∀ c ∈ [Condition.loading, .faultHold],
      let s := inCondition c
      s.inService = true ∧ s.link.slotBusy = false ∧ s.link.responseStream = [] ∧ s.startup.condition = c) ∧
    (let s := loader .free
     s.inService = true ∧ s.link.slotBusy = false ∧ s.link.responseStream = [] ∧ s.startup.condition = .running ∧
       ∃ r, some Role.chair = some r ∧ r ≠ s.startup.role) :=
  ⟨rfl, by decide +kernel, by decide +kernel, rfl, rfl, rfl, .chair, rfl, by decide +kernel⟩

theorem test_witness_SupplyAndResetRestartThePart :
    (let s := { chair with startup := { chair.startup with hold := some (sec 5), condition := .loading } }
     s.startup.powered = true ∧ s.startup.hold = some (sec 5) ∧ s.startup.resetLow = false) ∧
    (chair.startup.powered = true ∧ chair.startup.resetLow = false ∧ 10 ≤ 10 ∧ 9 < 10) ∧
    (let s := { chair with startup := { chair.startup with resetLow := true, condition := .loading } }
     s.startup.powered = true ∧ s.startup.resetLow = true ∧ s.startup.hold = none) ∧
    (1 : BitVec 6) ≠ 0 := by
  decide +kernel

/-- A part that is loading its configuration. -/
def loadingAt (r : Role) (step : LoadStep) : State :=
  { startup := { role := r, station := 3, load := step }, link := { notices := List.replicate 31 (.present 9) } }

/-- A settings block of zeros with its check. -/
def zeros : List Byte := List.replicate 48 0 ++ checkBytes (List.replicate 48 0)

theorem test_witness_TheConfigurationLoadRuns :
    (∀ tries ∈ [8, 9],
      (loadingAt .chair (.readingStatus tries)).inService = true ∧
        (loadingAt .chair (.readingStatus tries)).startup.load = .readingStatus tries) ∧
    ((0x02 : Byte).getLsbD 0 = false ∧ (0x02 : Byte) ≠ 0 ∧ (0x01 : Byte).getLsbD 0 = true) ∧
    (loadingAt .chair (.waiting 3 7)).startup.load = .waiting 3 7 ∧
    (∀ r ∈ [Role.chair, .loader],
      let s := loadingAt r .readingBlock
      s.inService = true ∧ s.startup.load = .readingBlock ∧ s.startup.role = r ∧ s.link.notices.length < 32) ∧
    (zeros.length = 50 ∧ checkBytes (zeros.take 48) = zeros.drop 48) ∧
    ((List.replicate 50 (1 : Byte)).length = 50 ∧
      checkBytes ((List.replicate 50 (1 : Byte)).take 48) ≠ (List.replicate 50 (1 : Byte)).drop 48) := by
  decide +kernel

end Sys2Proof.Tests
end

/-!
PROOFS. The fall of LCD with a frame that passes the receive check, up to the loader's blocks (R2, R8 to R10), and the
record under a DECLINE (R38).
-/
section

namespace Sys2Proof.Machine

/-! ### A reception judged -/

@[simp] theorem State.received_startup (s : State) : s.received.startup = s.startup := rfl
@[simp] theorem State.received_station (s : State) : s.received.station = s.station := rfl

/-- R2, R8, R20: the fall of LCD on a frame that passes the receive check ends the reception and takes the frame. -/
theorem State.Receives.exec_receptionComplete {s : State} {f : RxFrame} (h : s.Receives f) :
    exec .receptionComplete s = .next (s.received.takeFrame f) := by
  obtain ⟨hactive, hlcd, hlkey, hreceiving, hcheck⟩ := h
  have hhears : s.hearsLine = true := by simp [State.hearsLine_of_active hactive, hlkey]
  show execReceptionComplete s = _
  simp [execReceptionComplete, State.judgeFrame, hactive, hlcd, hhears, hreceiving, hcheck, State.received,
    Liu.endReception]

/-- R9, R10: a frame that this loader takes goes to the loader's blocks. -/
theorem State.TakesAsLoader.takeFrame_received {s : State} {f : RxFrame} (h : s.TakesAsLoader f) :
    s.received.takeFrame f = s.received.loaderTakes f := by
  obtain ⟨_, hrole, hsource, hloader⟩ := h
  simp [State.takeFrame, State.deliverLoader, hrole, hsource, hloader]

/-- R2, R8 to R10: the fall of LCD on a frame that this loader takes ends the reception, and the loader's blocks take
the frame. -/
theorem State.TakesAsLoader.exec_receptionComplete {s : State} {f : RxFrame} (h : s.TakesAsLoader f) :
    exec .receptionComplete s = .next (s.received.loaderTakes f) := by
  have hreceives : s.Receives f := h.1
  rw [hreceives.exec_receptionComplete, h.takeFrame_received]

/-! ### DECLINE at a loader (R38) -/

/-- R38: the loader's blocks do nothing with a DECLINE. -/
theorem State.loaderTakes_decline {f : RxFrame} (hkind : f.kind = .decline) (s : State) : s.loaderTakes f = s := by
  simp [State.loaderTakes, hkind]

/-- Settles O22: the frame reaches the loader's blocks, which do nothing with a DECLINE. -/
theorem aDeclineLeavesTheRecord : Obligations.ADeclineLeavesTheRecord := by
  intro s f htakes hkind
  rw [htakes.exec_receptionComplete, State.loaderTakes_decline hkind]

end Sys2Proof.Machine
end

/-!
PROOFS. A request carried out beside its response: what happens to the Local Link in two steps one after the other, and
the posting of one notice with room (R174, R176, R182); then STAND_UP (R52).
-/
section

namespace Sys2Proof.Machine

/-! ### The Local Link beside the response (R174, R182, R185) -/

/-- With no notice posted and no flag raised, a link that is as it was has nothing happen to it. -/
theorem Link.Beside.refl (k : Link) : k.Beside [] 0 k := by
  simp [Link.Beside]

/-- R182, R185, R187: of two steps of the Local Link the notices add up in their order and the flags together; ATTN is
judged by the last step that raises a flag. -/
theorem Link.Beside.trans {ns ms : List Notice} {a b : Half} {k₁ k₂ k₃ : Link} (h : k₁.Beside ns a k₂)
    (h' : k₂.Beside ms b k₃) : k₁.Beside (ns ++ ms) (a ||| b) k₃ := by
  obtain ⟨hstream, hqueue, hoverflow, herrors, hrestart, hreport, hmark, hmask, hbusy, hflags, hattn⟩ := h
  obtain ⟨hstream', hqueue', hoverflow', herrors', hrestart', hreport', hmark', hmask', hbusy', hflags', hattn'⟩ := h'
  refine ⟨by simp [hstream', hstream], ?_, hoverflow'.trans hoverflow, herrors'.trans herrors, hrestart'.trans hrestart,
    hreport'.trans hreport, hmark'.trans hmark, hmask'.trans hmask, hbusy'.trans hbusy, ?_, ?_⟩
  · intro hnone
    obtain ⟨rfl, rfl⟩ := List.append_eq_nil_iff.mp hnone
    obtain ⟨hnotices, hcredit, hnumber⟩ := hqueue rfl
    obtain ⟨hnotices', hcredit', hnumber'⟩ := hqueue' rfl
    exact ⟨hnotices'.trans hnotices, hcredit'.trans hcredit, hnumber'.trans hnumber⟩
  · rw [hflags', hflags, BitVec.or_assoc]
  · by_cases hb : b = 0
    · subst hb
      have hjudged : k₃.attention = k₂.attention := by simp [Link.attention, hflags', hmask']
      simpa [hjudged, hattn] using hattn'
    · have hab : a ||| b ≠ 0 := fun h0 => hb (BitVec.or_eq_zero_iff.mp h0).2
      rw [if_neg hab, hattn', if_neg hb]

/-- R182: a notice other than STATE posted with room is, of the Local Link, the one notice posted. -/
theorem State.post_beside {n : Notice} {s : State} (hstate : n.isState = false) (hroom : s.link.notices.length < 32) :
    s.link.Beside [n] 0 (s.post n).link := by
  have hplaced := Link.placeNotice_room n s.link hstate hroom
  have hbusy : (s.post n).link.busyStream = s.link.busyStream := by simp
  refine ⟨State.post_noticeStream n s hstate hroom, by simp, ?_⟩
  rw [hbusy]
  simp [hplaced]

/-- R182: a posted notice leaves the slot, the response in progress and the receiver, with room or without. -/
theorem State.post_sameSlot (n : Notice) (s : State) : s.link.SameSlot (s.post n).link := by
  simp [Link.SameSlot]

/-! ### A request carried out beside its response (R174, R176) -/

/-- A request that is taken leaves the notices, the counters, the flags and ATTN. -/
theorem State.taken_beside (s : State) : s.link.Beside [] 0 s.taken.link :=
  Link.Beside.refl s.link

/-- R174: a request that a part awaits is taken with no response in progress. -/
theorem State.Awaits.taken_responseStream {role : RequestRole} {s : State} (h : s.Awaits role) :
    s.taken.link.responseStream = [] := by
  obtain ⟨_, _, hempty, _, _⟩ := h
  exact hempty

/-- R174, R176: a request that a part awaits, carried out by an `act` that leaves the slot and the response, is answered
with the answer of `act`, and what `act` did to the Local Link beside that stands. -/
theorem State.request_answered (kind tag : Byte) {role : RequestRole} {act : State → State × Answer} {s : State}
    (h : s.Awaits role) (hsame : s.taken.link.SameSlot (act s.taken).1.link) :
    ∃ k, s.request kind tag true role act = { (act s.taken).1 with link := k } ∧
      k.Answers kind tag (act s.taken).2.code (act s.taken).2.contents ∧
      ∀ ns raised, s.taken.link.Beside ns raised (act s.taken).1.link → s.link.Beside ns raised k := by
  obtain ⟨hslot, hresponse, _⟩ := hsame
  obtain ⟨k, hrequest, hanswers, hrest⟩ := State.request_spec kind tag role act s h hslot
    (hresponse.trans h.taken_responseStream)
  refine ⟨k, hrequest, hanswers, fun ns raised hbeside => ?_⟩
  simpa using (s.taken_beside.trans hbeside).trans hrest

/-! ### STAND_UP (R52) -/

/-- R52: STAND_UP in ACTIVE changes nothing. -/
theorem State.standUp_active {s : State} (h : s.holds.posture = .active) : s.standUp = (s, { code := .ok }) := by
  simp [State.standUp, h]

/-- R52: STAND_UP in VACANT or STANDING_DOWN makes the posture ACTIVE and posts it. -/
theorem State.standUp_inactive {s : State} (h : s.holds.posture ≠ .active) :
    s.standUp =
      (State.post (.posture .active) { s with holds := { s.holds with posture := .active } }, { code := .ok }) := by
  simp [State.standUp, h, State.tell, Notice.losesHold]

/-- Settles O38: the request is taken, STAND_UP does what its posture calls for, and its answer stands beside the notice
posted. -/
theorem standUpMakesThePostureActive : Obligations.StandUpMakesThePostureActive := by
  intro s tag hawaits
  have hexec : exec (.standUp tag) s = .next (s.request 0x20 tag true (some .chair) State.standUp) := rfl
  have hrequest := State.request_answered (act := State.standUp) 0x20 tag hawaits
  constructor
  · intro hposture
    rw [State.standUp_active (s := s.taken) hposture] at hrequest
    obtain ⟨k, hnext, hanswers, hbeside⟩ := hrequest ⟨rfl, rfl, rfl⟩
    exact ⟨k, by rw [hexec, hnext]; rfl, hanswers, hbeside [] 0 (Link.Beside.refl _)⟩
  · intro hposture
    rw [State.standUp_inactive (s := s.taken) hposture] at hrequest
    obtain ⟨k, hnext, hanswers, hbeside⟩ := hrequest (State.post_sameSlot _ _)
    exact ⟨k, by rw [hexec, hnext]; rfl, hanswers,
      fun hroom => ⟨hanswers, hbeside [.posture .active] 0 (State.post_beside rfl hroom)⟩⟩

end Sys2Proof.Machine
end

/-!
PROOFS. The link term (R123) and what it bounds: the later stages of a DRIVE hold (R124 to R130) only lower it.
-/
section

namespace Sys2Proof.Machine

/-! ### The ends of the link term (R123) -/

/-- R123: with no good slot the link term is 0. -/
@[simp] theorem linkTerm_zero (vmax : Nat) : linkTerm vmax 0 = 0 := by
  simp [linkTerm]

/-- R123: with all eight slots good the link term is Vmax. -/
@[simp] theorem linkTerm_eight (vmax : Nat) : linkTerm vmax 8 = vmax :=
  Nat.mul_div_cancel vmax (by decide)

/-! ### The later stages only lower their argument (R125 to R130) -/

/-- R125: the alert term is at most the age term. -/
theorem alertTerm_le (alert : Bool) (vcrawl va : Nat) : alertTerm alert vcrawl va ≤ va := by
  unfold alertTerm
  split
  · exact Nat.min_le_left va vcrawl
  · exact Nat.le_refl va

/-- R128: the phase term is at most the result of stage 3. -/
theorem phaseTerm_le (state : AuthState) (vcrawl vb : Nat) : phaseTerm state vcrawl vb ≤ vb := by
  unfold phaseTerm
  split
  · exact Nat.min_le_left vb vcrawl
  · exact Nat.le_refl vb

/-- R130: the rise limit is at most the zone term, in both kinds of evaluation. -/
theorem riseLimit_le (e : Evaluation) (rup prev vz : Nat) : riseLimit e rup prev vz ≤ vz := by
  cases e with
  | interval => exact Nat.min_le_left vz (prev + rup)
  | lowering => exact Nat.min_le_left vz prev

/-! ### The cap of a DRIVE hold -/

/-- R123 to R125: in a DRIVE hold the result of stage 3 is at most the link term. -/
theorem State.holdTerm_le_linkTerm {s : State} (hmode : s.monitor.view.mode = some .drive) :
    s.holdTerm ≤ linkTerm s.settings.vmax s.monitor.linkFigure := by
  unfold State.holdTerm
  rw [hmode]
  cases s.age? with
  | none => exact Nat.zero_le _
  | some age => exact (alertTerm_le _ _ _).trans (ageTerm_le _ _ _ age)

/-- R128 to R130: the cap is at most the result of stage 3, whatever the kind of evaluation. -/
theorem State.capOf_le_holdTerm (e : Evaluation) (s : State) : s.capOf e ≤ s.holdTerm := by
  unfold State.capOf
  split
  · exact Nat.zero_le _
  · exact (riseLimit_le e _ _ _).trans ((s.zoneTerm_le _).trans (phaseTerm_le _ _ _))

/-- R123 to R130: the cap of a DRIVE hold is at most the link term. -/
theorem State.capOf_le_linkTerm (e : Evaluation) {s : State} (hmode : s.monitor.view.mode = some .drive) :
    s.capOf e ≤ linkTerm s.settings.vmax s.monitor.linkFigure :=
  (s.capOf_le_holdTerm e).trans (State.holdTerm_le_linkTerm hmode)

/-- Settles O28: the term is computed as the rule says it, and it bounds the cap of a DRIVE hold, so that a term of 0
leaves a cap of 0. -/
theorem theLinkTerm : Obligations.TheLinkTerm := by
  refine ⟨fun _ _ => rfl, by decide, fun vmax => ⟨linkTerm_zero vmax, linkTerm_eight vmax⟩, ?_⟩
  intro s e hmode hfigure
  have hbound := State.capOf_le_linkTerm e hmode
  rw [hfigure, linkTerm_zero] at hbound
  exact Nat.le_zero.mp hbound

end Sys2Proof.Machine
end

/-!
PROOFS. A request of the other role (R175); then AXES (R138).
-/
section

namespace Sys2Proof.Machine

/-! ### A request refused beside its response (R174 to R176) -/

/-- R175: a request that a part of one role would await fails the role check when it belongs to another role. -/
theorem State.Awaits.requestCheck_otherRole {own other : Role} {s : State} (h : s.Awaits (some own))
    (hne : other ≠ own) (kind : Byte) : s.requestCheck kind true (some other) = some .role := by
  obtain ⟨_, _, _, hrunning, hrole⟩ := h
  have hown : own = s.startup.role := by simpa using hrole
  simp [State.requestCheck, hrunning, ← hown, hne]

/-- R174 to R176: a request that fails a check is answered with the check's code, with no notice posted and no flag
raised, and leaves everything but the Local Link as it was. -/
theorem State.Awaits.request_refused {role asked : RequestRole} {s : State} (h : s.Awaits role) (kind tag : Byte)
    (fits : Bool) (act : State → State × Answer) {code : ResultCode}
    (hcheck : s.requestCheck kind fits asked = some code) :
    ∃ k, s.request kind tag fits asked act = { s with link := k } ∧ s.link.Replies kind tag code [] [] 0 k := by
  have hempty := h.taken_responseStream
  obtain ⟨hservice, hfree, _, _, _⟩ := h
  obtain ⟨hanswers, hbeside⟩ := State.respond_spec kind tag { code } s.taken rfl hempty
  refine ⟨_, ?_, hanswers, s.taken_beside.trans hbeside⟩
  rw [State.request_refused kind tag fits asked act s code hservice hfree hcheck]
  unfold State.respond
  split <;> rfl

/-! ### AXES (R138) -/

/-- Settles O49: a chair's request is carried out, which touches the latest axes alone; a loader's fails the role
check. -/
theorem axesReplaceTheLatestAxes : Obligations.AxesReplaceTheLatestAxes := by
  have hexec (tag steer : Byte) (travel : Half) (boom bucket : Byte) (s : State) :
      exec (.axes tag steer travel boom bucket) s =
        .next (s.request 0x10 tag true (some .chair) (State.takeAxes steer travel boom bucket)) := rfl
  constructor
  · intro s tag steer travel boom bucket hawaits
    obtain ⟨k, hnext, hanswers, hbeside⟩ :=
      State.request_answered (act := State.takeAxes steer travel boom bucket) 0x10 tag hawaits ⟨rfl, rfl, rfl⟩
    exact ⟨k, by rw [hexec, hnext]; rfl, hanswers, hbeside [] 0 (Link.Beside.refl _)⟩
  · intro s tag steer travel boom bucket hawaits
    obtain ⟨k, hnext, hreplies⟩ := hawaits.request_refused 0x10 tag true (State.takeAxes steer travel boom bucket)
      (hawaits.requestCheck_otherRole (other := .chair) (by decide) 0x10)
    exact ⟨k, by rw [hexec, hnext], hreplies⟩

end Sys2Proof.Machine
end

/-!
PROOFS. What a command can do, said once for every invariant: the sizes of the LIU and of the Local Link (R2, R8, R12,
R181, R182), ATTN under the steps of the Local Link (R160, R187), and the moves of a state that keep all five invariants.
-/
section

namespace Sys2Proof.Machine

/-! ### The sizes of the LIU and of the Local Link -/

/-- R2, R8, R12: the receive buffer, the counter of bad frames and the transmit queue are within their sizes. -/
def Liu.Bounded (q : Liu) : Prop :=
  q.rxBuffer.length ≤ 26 ∧ q.badFrames ≤ 65535 ∧ q.classS.length ≤ 2 ∧ q.classA.length ≤ 8 ∧ q.classC.length ≤ 6

/-- R173, R181, R182: the notice queue, the credit and the counters of the Local Link are within their sizes. -/
def Link.Bounded (k : Link) : Prop :=
  k.notices.length ≤ 32 ∧ k.credit ≤ 255 ∧ k.linkErrors ≤ 255 ∧ k.noticeOverflow ≤ 255

/-- The bounds of the part, block by block. -/
theorem State.bounded_iff (s : State) :
    s.Bounded ↔ s.liu.Bounded ∧ s.holds.entries.length ≤ 6 ∧ s.board.items.length ≤ 8 ∧
      s.discrete.stopList.length ≤ 32 ∧ s.link.Bounded := by
  unfold State.Bounded Liu.Bounded Link.Bounded
  tauto

/-! ### The LIU keeps its sizes -/

theorem Liu.Bounded.enterGap {q : Liu} (h : q.Bounded) (now station : Nat) : (q.enterGap now station).Bounded := by
  rw [Liu.enterGap_frame]; exact h

theorem Liu.Bounded.enterWait {q : Liu} (h : q.Bounded) (now station : Nat) : (q.enterWait now station).Bounded := by
  rw [Liu.enterWait_frame]; exact h

theorem Liu.Bounded.onJoin {q : Liu} (h : q.Bounded) (now station : Nat) (before : Option FrameClass)
    (joined : FrameClass) : (q.onJoin now station before joined).Bounded := by
  rw [(Liu.onJoin_spec now station before joined q).1]; exact h

/-- R14: class A is one shorter when its oldest ASSIST_CALL has left it. -/
theorem removeOldestAssistCall_length {l rest : List TxFrame} (h : removeOldestAssistCall l = some rest) :
    l.length = rest.length + 1 := by
  induction l generalizing rest with
  | nil => simp [removeOldestAssistCall] at h
  | cons f l ih =>
    rw [removeOldestAssistCall] at h
    split at h
    · simp_all
    · obtain ⟨tail, htail, rfl⟩ := Option.map_eq_some_iff.mp h
      simp [ih htail]

/-- R15: a replacement in place keeps the length of class C. -/
@[simp] theorem replaceInPlace_length (f : TxFrame) (l : List TxFrame) : (replaceInPlace f l).length = l.length := by
  induction l with
  | nil => rfl
  | cons g l ih => rw [replaceInPlace]; split <;> simp [ih]

/-- R12 to R15: a frame given takes a free slot, the place of its like, or that of the oldest that makes room. -/
theorem Liu.Bounded.give {q : Liu} (h : q.Bounded) (now station : Nat) (f : TxFrame) :
    (q.give now station f).1.Bounded := by
  obtain ⟨hbuffer, hbad, hS, hA, hC⟩ := h
  unfold Liu.give
  cases f.kind.frameClass with
  | s =>
    dsimp only
    split
    · apply Liu.Bounded.onJoin
      refine ⟨hbuffer, hbad, ?_, hA, hC⟩
      simp_all [Config.slotsS]
    · exact ⟨hbuffer, hbad, hS, hA, hC⟩
  | a =>
    dsimp only
    split
    · apply Liu.Bounded.onJoin
      refine ⟨hbuffer, hbad, hS, ?_, hC⟩
      simp_all [Config.slotsA]
    · split
      · next rest hrest =>
        have hlength := removeOldestAssistCall_length hrest
        apply Liu.Bounded.onJoin
        refine ⟨hbuffer, hbad, hS, ?_, hC⟩
        simp only [List.length_append, List.length_singleton]
        omega
      · exact ⟨hbuffer, hbad, hS, hA, hC⟩
  | c =>
    dsimp only
    split
    · exact ⟨hbuffer, hbad, hS, hA, by simpa using hC⟩
    · split
      · apply Liu.Bounded.onJoin
        refine ⟨hbuffer, hbad, hS, hA, ?_⟩
        simp_all [Config.slotsC]
      · next hfull =>
        apply Liu.Bounded.onJoin
        refine ⟨hbuffer, hbad, hS, hA, ?_⟩
        simp only [Config.slotsC, List.length_append, List.length_tail, List.length_singleton] at hfull ⊢
        omega

theorem Liu.Bounded.doubleHead {q : Liu} (h : q.Bounded) : q.doubleHead.Bounded := by
  unfold Liu.doubleHead
  split <;> simp_all [Liu.Bounded]

theorem Liu.Bounded.dropHead {q : Liu} (h : q.Bounded) : q.dropHead.Bounded := by
  obtain ⟨hbuffer, hbad, hS, hA, hC⟩ := h
  unfold Liu.dropHead
  split
  · next hS' => exact ⟨hbuffer, hbad, by simp [hS'] at hS; simp; omega, hA, hC⟩
  · next hA' => exact ⟨hbuffer, hbad, hS, by simp [hA'] at hA; simp; omega, hC⟩
  · exact ⟨hbuffer, hbad, hS, hA, by simp; omega⟩

theorem Liu.Bounded.accessRise {q : Liu} (h : q.Bounded) : q.accessRise.Bounded := by
  unfold Liu.accessRise
  split
  · exact h.doubleHead
  all_goals exact h

/-! ### The steps of the Local Link -/

/-- R160, R187: the flags, the mask and ATTN stand as they were, or ATTN has been judged afresh. -/
def Link.Judged (k k' : Link) : Prop :=
  (k'.flags = k.flags ∧ k'.mask = k.mask ∧ k'.attn = k.attn) ∨ k'.attn = k'.attention

/-- A step of the Local Link: ATTN is judged where flags or mask change, and the sizes are kept. -/
structure Link.Steps (k k' : Link) : Prop where
  judged : k.Judged k'
  bounded : k.Bounded → k'.Bounded

theorem Link.Steps.trans {k₁ k₂ k₃ : Link} (h : k₁.Steps k₂) (h' : k₂.Steps k₃) : k₁.Steps k₃ := by
  refine ⟨?_, fun hk => h'.bounded (h.bounded hk)⟩
  rcases h'.judged with ⟨hflags', hmask', hattn'⟩ | hjudged'
  · rcases h.judged with ⟨hflags, hmask, hattn⟩ | hjudged
    · exact .inl ⟨hflags'.trans hflags, hmask'.trans hmask, hattn'.trans hattn⟩
    · exact .inr (by rw [hattn', hjudged]; simp [Link.attention, hflags', hmask'])
  · exact .inr hjudged'

/-- A step that touches none of the sizes, the flags, the mask and ATTN. -/
theorem Link.Steps.of_same {k k' : Link} (hflags : k'.flags = k.flags := by rfl) (hmask : k'.mask = k.mask := by rfl)
    (hattn : k'.attn = k.attn := by rfl) (hnotices : k'.notices = k.notices := by rfl)
    (hcredit : k'.credit = k.credit := by rfl) (herrors : k'.linkErrors = k.linkErrors := by rfl)
    (hoverflow : k'.noticeOverflow = k.noticeOverflow := by rfl) : k.Steps k' :=
  ⟨.inl ⟨hflags, hmask, hattn⟩, by simp only [Link.Bounded, hnotices, hcredit, herrors, hoverflow]; exact id⟩

theorem Link.Steps.refl (k : Link) : k.Steps k := .of_same

theorem Link.steps_raise (f : EventFlag) (k : Link) : k.Steps (k.raise f) := ⟨.inr rfl, id⟩

theorem Link.steps_start (now : Nat) (k : Link) : k.Steps (k.start now) := by
  refine ⟨.inl ⟨by simp, by simp, by simp⟩, fun ⟨hnotices, hcredit, herrors, hoverflow⟩ => ?_⟩
  rcases k.start_cases now with h | ⟨_, _, _, h⟩ | ⟨_, _, _, _, _, h⟩ | ⟨_, _, _, _, _, h⟩ | ⟨_, _, _, _, _, hn, _, h⟩
  all_goals rw [h]
  · exact ⟨hnotices, hcredit, herrors, hoverflow⟩
  · exact ⟨hnotices, hcredit, herrors, hoverflow⟩
  · exact ⟨hnotices, hcredit, herrors, hoverflow⟩
  · exact ⟨hnotices, hcredit, herrors, hoverflow⟩
  · simp only [hn, List.length_cons] at hnotices
    exact ⟨by dsimp only; omega, by dsimp only; omega, herrors, hoverflow⟩

/-- R182: a STATE notice that replaces another keeps the number of notices. -/
@[simp] theorem replaceState_length (n : Notice) (l : List Notice) : (replaceState n l).length = l.length := by
  induction l with
  | nil => rfl
  | cons m l ih => rw [replaceState]; split <;> simp [ih]

theorem Link.steps_placeNotice (n : Notice) (k : Link) : k.Steps (k.placeNotice n) := by
  unfold Link.placeNotice
  split
  · exact ⟨.inl ⟨rfl, rfl, rfl⟩, fun ⟨hnotices, hrest⟩ => ⟨by simpa using hnotices, hrest⟩⟩
  · split
    · next hroom =>
      exact ⟨.inl ⟨rfl, rfl, rfl⟩, fun ⟨_, hrest⟩ => ⟨by simp [Config.noticeQueueSize] at hroom ⊢; omega, hrest⟩⟩
    · exact ⟨.inr rfl, fun ⟨hnotices, hcredit, herrors, _⟩ => ⟨hnotices, hcredit, herrors, by simp⟩⟩

end Sys2Proof.Machine
end

/-!
PROOFS. The moves of a state: what one event leaves, with the five invariants it keeps, and the three kinds of move: in
the LIU, the Local Link and the clock alone; in the chair's part; and in the loader's part.
-/
section

namespace Sys2Proof.Machine

/-- What a command does that is neither a restart nor a part of a load: the queue and the start-up block stay, the clock
does not turn back, and the five invariants are kept. -/
structure State.Keeps (s t : State) : Prop where
  pending : t.pending = s.pending
  startup : t.startup = s.startup
  now : s.now ≤ t.now
  attn : s.AttnSound → t.AttnSound
  bounded : s.Bounded → t.Bounded
  tables : s.TablesSound → t.TablesSound
  roles : s.RolesSound → t.RolesSound
  motion : s.MotionSafe → t.MotionSafe

/-- What a command does that is, besides, neither a grant, nor an envelope interval, nor the clearing of the latch: the
epoch stays, the cap does not rise, and a set latch keeps its cause. -/
structure State.Moves (s t : State) : Prop extends State.Keeps s t where
  epoch : t.record.epoch = s.record.epoch
  cap : t.envelope.cap ≤ s.envelope.cap
  latch : ∀ c, s.discrete.latch = some c → t.discrete.latch = some c

theorem State.Keeps.trans {s t u : State} (h : s.Keeps t) (h' : t.Keeps u) : s.Keeps u where
  pending := h'.pending.trans h.pending
  startup := h'.startup.trans h.startup
  now := h.now.trans h'.now
  attn hs := h'.attn (h.attn hs)
  bounded hs := h'.bounded (h.bounded hs)
  tables hs := h'.tables (h.tables hs)
  roles hs := h'.roles (h.roles hs)
  motion hs := h'.motion (h.motion hs)

theorem State.Moves.refl (s : State) : s.Moves s :=
  ⟨⟨rfl, rfl, Nat.le_refl _, id, id, id, id, id⟩, rfl, Nat.le_refl _, fun _ => id⟩

theorem State.Moves.trans {s t u : State} (h : s.Moves t) (h' : t.Moves u) : s.Moves u where
  toKeeps := h.toKeeps.trans h'.toKeeps
  epoch := h'.epoch.trans h.epoch
  cap := h'.cap.trans h.cap
  latch c hc := h'.latch c (h.latch c hc)

/-! ### A part in service, active, and of a role: read off the start-up block -/

theorem State.inService_congr {s t : State} (h : t.startup = s.startup) : t.inService = s.inService := by
  simp [State.inService, h]

theorem State.active_congr {s t : State} (h : t.startup = s.startup) : t.active = s.active := by
  simp [State.active, State.inService_congr h, h]

theorem State.activeAs_congr {s t : State} (r : Role) (h : t.startup = s.startup) :
    t.activeAs r = s.activeAs r := by
  simp [State.activeAs, State.active_congr h, h]

theorem State.activeAs_iff {s : State} {r : Role} : s.activeAs r = true ↔ s.active = true ∧ s.startup.role = r := by
  simp [State.activeAs]

/-- R160, R187: in service ATTN stays sound under the steps of the Local Link. -/
theorem State.AttnSound.of_steps {s t : State} (hs : s.AttnSound) (hservice : s.inService = true)
    (hstartup : t.startup = s.startup) (hlink : s.link.Steps t.link) : t.AttnSound := by
  have hup : s.startup.powered = true ∧ s.startup.resetLow = false := by
    simp only [State.inService, Bool.and_eq_true, Bool.not_eq_true'] at hservice
    exact hservice.1
  unfold State.AttnSound at hs ⊢
  rw [hstartup]
  rcases hlink.judged with ⟨hflags, hmask, hattn⟩ | hjudged
  · rw [hattn, hs]; simp [Link.attention, hflags, hmask]
  · simp [hjudged, hup]

/-! ### Moves of the LIU, the Local Link and the clock -/

/-- The invariant of motion speaks of the start-up block, the record's view, the Monitor's view and window, the cap, and
of the Discrete Line Unit's latch, STOPCHAIN and MOTION_ENABLE. -/
theorem State.MotionSafe.congr {s t : State} (hs : s.MotionSafe) (hstartup : t.startup = s.startup)
    (hauth : t.record.auth = s.record.auth) (hepoch : t.record.epoch = s.record.epoch)
    (hmonitor : t.monitor.view = s.monitor.view) (hwindow : t.monitor.window.length = s.monitor.window.length)
    (hcap : t.envelope.cap = s.envelope.cap) (hlatch : t.discrete.latch = s.discrete.latch)
    (hchain : t.discrete.stopchain.active = s.discrete.stopchain.active)
    (hmotion : t.discrete.motionEnable = s.discrete.motionEnable) : t.MotionSafe := by
  have hcondition : t.motionCondition = s.motionCondition := by
    simp [State.motionCondition, State.activeAs_congr _ hstartup, hauth, hlatch, State.chainClosed, hchain]
  have hbound : t.capBound = s.capBound := by simp [State.capBound, State.settings, hauth, hstartup]
  have hview : t.record.view = s.record.view := by simp [Record.view, hauth, hepoch]
  simpa only [State.MotionSafe, hcondition, hbound, hview, hmonitor, hwindow, hcap, hmotion, hauth,
    State.active_congr hstartup, hstartup] using hs

/-- Moves of the LIU, the Local Link and the clock alone. -/
theorem State.Moves.outside {s : State} (now : Nat) (q : Liu) (k : Link) (hnow : s.now ≤ now)
    (hliu : s.liu.Bounded → q.Bounded) (hlink : k = s.link ∨ (s.inService = true ∧ s.link.Steps k)) :
    s.Moves { s with now := now, liu := q, link := k } where
  pending := rfl
  startup := rfl
  now := hnow
  attn hs := by
    rcases hlink with rfl | ⟨hservice, hsteps⟩
    · exact hs
    · exact hs.of_steps hservice rfl hsteps
  bounded hs := by
    obtain ⟨hq, hentries, hitems, hstops, hk⟩ := (State.bounded_iff s).mp hs
    refine (State.bounded_iff _).mpr ⟨hliu hq, hentries, hitems, hstops, ?_⟩
    rcases hlink with rfl | ⟨_, hsteps⟩
    · exact hk
    · exact hsteps.bounded hk
  tables := id
  roles := id
  motion := id
  epoch := rfl
  cap := Nat.le_refl _
  latch _ := id

theorem State.moves_reach (due : Nat) (s : State) : s.Moves (s.reach due) :=
  .outside (max s.now due) s.liu s.link (Nat.le_max_left _ _) id (.inl rfl)

theorem State.moves_liu {s : State} (q : Liu) (h : s.liu.Bounded → q.Bounded) : s.Moves { s with liu := q } :=
  .outside s.now q s.link (Nat.le_refl _) h (.inl rfl)

theorem State.moves_link {s : State} (k : Link) (hservice : s.inService = true) (h : s.link.Steps k) :
    s.Moves { s with link := k } :=
  .outside s.now s.liu k (Nat.le_refl _) id (.inr ⟨hservice, h⟩)

theorem State.moves_raise {s : State} (f : EventFlag) (h : s.inService = true) : s.Moves (s.raise f) :=
  State.moves_link _ h (Link.steps_raise f s.link)

theorem State.moves_post {s : State} (n : Notice) (h : s.inService = true) : s.Moves (s.post n) :=
  State.moves_link _ h ((Link.steps_placeNotice n s.link).trans (Link.steps_start s.now _))

/-- R13, R14: a frame given touches the LIU and the Local Link alone. -/
theorem State.give_frame (f : TxFrame) (s : State) :
    s.give f = { s with liu := (s.give f).liu, link := (s.give f).link } := by
  unfold State.give
  split
  · split <;> rfl
  · rfl

theorem State.moves_give (f : TxFrame) (s : State) : s.Moves (s.give f) := by
  unfold State.give
  split
  · next hactive =>
    have hbounded (hq : s.liu.Bounded) := hq.give s.now s.station f
    split
    · next q hgive => exact State.moves_liu q fun hq => by simpa [hgive] using hbounded hq
    · next q hgive =>
      exact .outside s.now q _ (Nat.le_refl _) (fun hq => by simpa [hgive] using hbounded hq)
        (.inr ⟨State.inService_of_active hactive, Link.steps_raise _ _⟩)
  · exact .refl s

theorem State.moves_tell {s : State} (n : Notice) (h : s.inService = true) : s.Moves (s.tell n) := by
  unfold State.tell
  split
  · exact (State.moves_post n h).trans (State.moves_raise _ (by simpa [State.inService] using h))
  · exact State.moves_post n h

theorem State.moves_respond {s : State} (kind tag : Byte) (a : Answer) (h : s.inService = true) :
    s.Moves (s.respond kind tag a) := by
  unfold State.respond
  split
  · exact .refl s
  · exact State.moves_link _ h (.trans .of_same (Link.steps_start s.now _))

theorem State.moves_answerBusy {s : State} (kind tag : Byte) (h : s.inService = true) :
    s.Moves (s.answerBusy kind tag) := by
  unfold State.answerBusy
  split
  · exact State.moves_raise _ h
  · exact State.moves_link _ h (.trans .of_same (Link.steps_start s.now _))

theorem State.moves_discardMessage {s : State} (h : s.inService = true) : s.Moves s.discardMessage := by
  refine State.moves_link _ h (.trans ?_ (Link.steps_raise _ _))
  exact ⟨.inl ⟨rfl, rfl, rfl⟩, fun ⟨hnotices, hcredit, _, hoverflow⟩ => ⟨hnotices, hcredit, by simp, hoverflow⟩⟩

/-- R174, R175: a request that finds its way to `act` moves as `act` does; any other moves the Local Link alone. A request
of a role is carried out in that role, in an active part. -/
theorem State.moves_request {s : State} (kind tag : Byte) (fits : Bool) (role : RequestRole)
    (act : State → State × Answer)
    (hact : ∀ u : State, u.inService = true → (∀ r, role = some r → kind ≠ 0x01 → kind ≠ 0x02 → kind ≠ 0x07 →
      u.activeAs r = true) → u.Moves (act u).1) :
    s.Moves (s.request kind tag fits role act) := by
  unfold State.request
  split
  · exact .refl s
  · next hservice =>
    have hin : s.inService = true := by simpa using hservice
    have htaken : s.Moves { s with link := { s.link with receiver := .hunt } } := State.moves_link _ hin .of_same
    have hbusy : s.Moves { s with link := { s.link with receiver := .hunt, slotBusy := true } } :=
      State.moves_link _ hin .of_same
    dsimp only
    split
    · exact htaken.trans (State.moves_answerBusy kind tag hin)
    · split
      · exact hbusy.trans (State.moves_respond kind tag _ hin)
      · next hcheck =>
        have hmoves := hact { s with link := { s.link with receiver := .hunt, slotBusy := true } } hin ?_
        · refine (hbusy.trans hmoves).trans (State.moves_respond kind tag _ ?_)
          rw [State.inService_congr hmoves.startup]; exact hin
        · rintro r rfl h1 h2 h7
          simp only [State.requestCheck] at hcheck
          repeat' split at hcheck
          all_goals simp_all
          rw [State.activeAs_iff]
          cases hc : s.startup.condition <;> simp_all [State.active, State.inService]

/-! ### Moves of the chair's part -/

/-- In an active chair, a move that leaves the record, the Monitor, the Envelope, the loader's side of the Relay, the
latch and MOTION_ENABLE. -/
theorem State.Moves.chair {s t : State} (hchair : s.activeAs .chair = true)
    (htables : s.TablesSound → t.TablesSound) (hbounded : s.Bounded → t.Bounded) (hlink : s.link.Steps t.link)
    (hpending : t.pending = s.pending := by simp) (hstartup : t.startup = s.startup := by simp)
    (hnow : s.now ≤ t.now := by simp)
    (hrecord : t.record.auth = s.record.auth ∧ t.record.epoch = s.record.epoch ∧
      t.record.lastGrant = s.record.lastGrant := by simp)
    (hmonitor : t.monitor = s.monitor := by simp) (henvelope : t.envelope = s.envelope := by simp)
    (hrelay : t.relay.lastRecord = s.relay.lastRecord ∧ t.relay.taken = s.relay.taken ∧
      t.relay.view = s.relay.view := by simp)
    (hlatch : t.discrete.latch = s.discrete.latch := by simp)
    (hmotion : t.discrete.motionEnable = s.discrete.motionEnable := by simp) : s.Moves t := by
  obtain ⟨hactive, hrole⟩ := State.activeAs_iff.mp hchair
  obtain ⟨hauth, hepoch, hgrant⟩ := hrecord
  obtain ⟨hlast, htaken, hview⟩ := hrelay
  have hactive' : t.active = true := by rw [State.active_congr hstartup]; exact hactive
  have hrole' : t.startup.role = .chair := by rw [hstartup]; exact hrole
  refine ⟨⟨hpending, hstartup, hnow, fun hs => hs.of_steps (State.inService_of_active hactive) hstartup hlink, hbounded,
    htables, ?_, ?_⟩, hepoch, by rw [henvelope], fun c hc => by rw [hlatch]; exact hc⟩
  · rintro ⟨-, hchairPart, -, hhold, hload⟩
    refine ⟨by simp [hactive'], fun _ => ?_, by simp [hrole'], by rwa [hstartup], by rwa [hstartup]⟩
    rw [hauth, hepoch, hgrant, hmonitor, henvelope, hlast, htaken, hview, hlatch, hmotion]
    exact hchairPart hrole
  · rintro ⟨henable, hlow, hbound, hviews, hwindow, hfree, hhold, hload⟩
    have hcondition (u : State) (hu : u.startup.role = .chair) : u.motionCondition = false := by
      simp [State.motionCondition, State.activeAs, hu]
    have hbound' : t.capBound = s.capBound := by simp [State.capBound, State.settings, hauth, hstartup]
    refine ⟨?_, ?_, by rw [henvelope, hbound']; exact hbound, ?_, by rw [hmonitor]; exact hwindow,
      by simp [hactive'], by rwa [hstartup], by rwa [hstartup]⟩
    · rw [hmotion, henable, hcondition s hrole, hcondition t hrole']
    · rw [hmotion, henvelope]; exact hlow
    · rw [hmonitor, hviews]; simp [Record.view, hauth, hepoch]

/-! ### Moves of the loader's part -/

/-- In an active loader, what leaves the tables, the chair's side of the Relay and the stop list keeps the invariants when
it keeps that of motion. -/
theorem State.Keeps.loader {s t : State} (hloader : s.activeAs .loader = true)
    (hmotionSafe : s.MotionSafe → t.MotionSafe) (hliu : s.liu.Bounded → t.liu.Bounded) (hlink : s.link.Steps t.link)
    (hpending : t.pending = s.pending := by simp) (hstartup : t.startup = s.startup := by simp)
    (hnow : s.now ≤ t.now := by simp)
    (hholds : t.holds = s.holds := by simp) (hboard : t.board = s.board := by simp)
    (hrelay : t.relay.axes = s.relay.axes ∧ t.relay.driveTimer = s.relay.driveTimer := by simp)
    (hstops : t.discrete.stopList = s.discrete.stopList := by simp) : s.Keeps t := by
  obtain ⟨hactive, hrole⟩ := State.activeAs_iff.mp hloader
  have hactive' : t.active = true := by rw [State.active_congr hstartup]; exact hactive
  refine ⟨hpending, hstartup, hnow, fun hs => hs.of_steps (State.inService_of_active hactive) hstartup hlink, ?_, ?_, ?_,
    hmotionSafe⟩
  · intro hs
    obtain ⟨hq, hentries, hitems, hlist, hk⟩ := (State.bounded_iff s).mp hs
    exact (State.bounded_iff t).mpr
      ⟨hliu hq, by rwa [hholds], by rwa [hboard], by rwa [hstops], hlink.bounded hk⟩
  · intro hs
    simpa only [State.TablesSound, hholds, hboard] using hs
  · rintro ⟨-, -, hloaderPart, hhold, hload⟩
    refine ⟨by simp [hactive'], by simp [hstartup, hrole], fun _ => ?_, by rwa [hstartup], by rwa [hstartup]⟩
    rw [hholds, hboard, hrelay.1, hrelay.2, hstops]
    exact hloaderPart hrole

end Sys2Proof.Machine
end

/-!
PROOFS. The Call Board: which item becomes presented, what a presentation, a removal, a boarding and a replacement leave
of the state, and that each keeps the Board sound (R83, R84, R87 to R92).
-/
section

namespace Sys2Proof.Machine

/-! ### The steps of the Local Link that go with notices -/

theorem State.steps_post (n : Notice) (s : State) : s.link.Steps (s.post n).link :=
  (Link.steps_placeNotice n s.link).trans (Link.steps_start s.now _)

theorem State.steps_tell (n : Notice) (s : State) : s.link.Steps (s.tell n).link := by
  unfold State.tell
  split
  · exact (s.steps_post n).trans (Link.steps_raise _ _)
  · exact s.steps_post n

/-- A gesture that fails is no longer armed, and a notice may be posted. -/
theorem State.failGesture_frame (c : GestureCause) (s : State) :
    s.failGesture c =
      { s with board := { s.board with gesture := none }, link := (s.failGesture c).link } := by
  unfold State.failGesture
  split
  · next h => rw [← h]
  · rfl

theorem State.steps_failGesture (c : GestureCause) (s : State) : s.link.Steps (s.failGesture c).link := by
  unfold State.failGesture
  split
  · exact .refl _
  · exact State.steps_post _ _

/-! ### Presentation (R83, R84) -/

/-- R84: the item that becomes presented: the first in the order of presentation when none is presented. -/
def nextPresented? (items : List Item) : Option Item := if items.any (·.presented) then none else firstItem items

/-- R84: the items after a presentation. -/
def shown (items : List Item) : List Item :=
  match nextPresented? items with
  | none => items
  | some i => markPresented i items

@[simp] theorem markPresented_loaders (i : Item) (items : List Item) :
    (markPresented i items).map (·.loader) = items.map (·.loader) := by
  simp only [markPresented, List.map_map]
  congr 1
  funext j
  by_cases h : j.loader = i.loader <;> simp [h]

@[simp] theorem markPresented_eq_nil (i : Item) (items : List Item) : markPresented i items = [] ↔ items = [] := by
  simp [markPresented]

/-- R84: a presentation changes no loader and no place. -/
@[simp] theorem shown_loaders (items : List Item) : (shown items).map (·.loader) = items.map (·.loader) := by
  unfold shown
  split
  · rfl
  · exact markPresented_loaders _ _

@[simp] theorem shown_length (items : List Item) : (shown items).length = items.length := by
  have hlength := congrArg List.length (shown_loaders items)
  rwa [List.length_map, List.length_map] at hlength

theorem firstItem_mem {items : List Item} {i : Item} (h : firstItem items = some i) : i ∈ items := by
  simp only [firstItem, firstOfLevel, Option.or_eq_some_iff] at h
  rcases h with h | ⟨_, h | ⟨_, h⟩⟩ <;> exact List.mem_of_find?_eq_some h

/-- R83: every item has a level from 1 to 3, so that a Board with items has a first one. -/
theorem firstItem_eq_none {items : List Item} (h : firstItem items = none) : items = [] := by
  simp only [firstItem, firstOfLevel, Option.or_eq_none_iff, List.find?_eq_none] at h
  obtain ⟨h1, h2, h3⟩ := h
  cases items with
  | nil => rfl
  | cons i rest =>
    have hi1 := h1 i (by simp)
    have hi2 := h2 i (by simp)
    have hi3 := h3 i (by simp)
    cases hk : i.kind <;> simp [hk, ItemKind.level] at hi1 hi2 hi3

/-- A presentation marks items as presented and takes no mark away. -/
theorem shown_keeps_presented {items : List Item} {i : Item} (h : i ∈ items) (hp : i.presented = true) :
    i ∈ shown items := by
  have hany : items.any (·.presented) = true := List.any_eq_true.mpr ⟨i, h, hp⟩
  simpa [shown, nextPresented?, hany] using h

/-- Of items of different loaders, the mark goes to one. -/
theorem filter_markPresented {items : List Item} {i : Item} (hi : i ∈ items) (hnodup : (items.map (·.loader)).Nodup)
    (hnone : ∀ j ∈ items, j.presented = false) :
    ((markPresented i items).filter (·.presented)).length = 1 := by
  induction items with
  | nil => simp at hi
  | cons j rest ih =>
    have hj : j.presented = false := hnone j (by simp)
    have hrest : ∀ k ∈ rest, k.presented = false := fun k hk => hnone k (by simp [hk])
    rw [List.map_cons, List.nodup_cons] at hnodup
    obtain ⟨hfresh, hnodup⟩ := hnodup
    by_cases hloader : j.loader = i.loader
    · have hnil : (markPresented i rest).filter (·.presented) = [] := by
        rw [List.filter_eq_nil_iff]
        intro k hk
        obtain ⟨k', hk', rfl⟩ := List.mem_map.mp hk
        have hne : k'.loader ≠ i.loader := fun he =>
          hfresh (hloader ▸ he ▸ List.mem_map.mpr ⟨k', hk', rfl⟩)
        simp [hne, hrest k' hk']
      simp only [markPresented] at hnil
      simp [markPresented, hloader, hnil]
    · have hmem : i ∈ rest := by
        rcases List.mem_cons.mp hi with rfl | h
        · exact absurd rfl hloader
        · exact h
      have htail := ih hmem hnodup hrest
      simp only [markPresented] at htail
      simpa [markPresented, hloader, hj] using htail

/-- R84: after a presentation exactly one item is presented, unless there is none, when at most one was before. -/
theorem shown_presents {items : List Item} (hnodup : (items.map (·.loader)).Nodup)
    (hone : (items.filter (·.presented)).length ≤ 1) :
    ((shown items).filter (·.presented)).length = if (shown items).isEmpty then 0 else 1 := by
  unfold shown nextPresented?
  by_cases hany : items.any (·.presented) = true
  · obtain ⟨i, hi, hp⟩ := List.any_eq_true.mp hany
    have hpos : 0 < (items.filter (·.presented)).length :=
      List.length_pos_iff_exists_mem.mpr ⟨i, List.mem_filter.mpr ⟨hi, hp⟩⟩
    have hne : items.isEmpty = false := by cases items <;> simp_all
    simp only [hany, if_true, hne]
    simp; omega
  · simp only [hany]
    cases hfirst : firstItem items with
    | none => simp [firstItem_eq_none hfirst]
    | some i =>
      have hnone : ∀ j ∈ items, j.presented = false := by simpa using hany
      have hmem := firstItem_mem hfirst
      have hne : (markPresented i items).isEmpty = false := by
        rw [List.isEmpty_eq_false_iff, Ne, markPresented_eq_nil]
        rintro rfl
        simp at hmem
      simp [filter_markPresented hmem hnodup hnone, hne]

/-- R84: an item is presented exactly when one is found. -/
theorem State.presented?_isSome (s : State) : s.presented?.isSome = s.board.items.any (·.presented) := by
  rw [Bool.eq_iff_iff, List.any_eq_true]
  simp [State.presented?, List.find?_isSome]

/-- R84: a presentation marks the next item, lights the indicator by the Board, and else touches the Local Link alone. -/
theorem State.present_frame (s : State) :
    s.present =
      { s with
        board := { s.board with items := shown s.board.items }
        discrete := { s.discrete with indicator := decide (s.board.items ≠ []) }
        link := s.present.link } := by
  have hempty : (!s.board.items.isEmpty) = decide (s.board.items ≠ []) := by cases s.board.items <;> rfl
  unfold State.present shown nextPresented?
  rw [State.presented?_isSome]
  by_cases hany : s.board.items.any (·.presented) = true
  · simp [hany, hempty]
  · simp only [hany]
    cases hfirst : firstItem s.board.items with
    | none => simp [hempty]
    | some i =>
      have hempty' : (!(markPresented i s.board.items).isEmpty) = decide (s.board.items ≠ []) := by
        cases s.board.items <;> rfl
      simp [State.announceItem, hempty']

/-- R84, R102: a presentation posts PRESENTED and raises CALL, when an item becomes presented. -/
theorem State.present_link (s : State) :
    s.present.link =
      (match nextPresented? s.board.items with
       | none => s.link
       | some i => ((s.post (.presented i.loader i.kind i.mode)).raise .call).link) := by
  unfold State.present nextPresented?
  rw [State.presented?_isSome]
  by_cases hany : s.board.items.any (·.presented) = true
  · simp [hany]
  · simp only [hany]
    cases firstItem s.board.items <;> rfl

theorem State.steps_present (s : State) : s.link.Steps s.present.link := by
  rw [State.present_link]
  split
  · exact .refl _
  · exact (s.steps_post _).trans (Link.steps_raise _ _)

/-! ### The Board with its gesture -/

/-- The items and the gesture are sound by themselves: different loaders, one presented item, and a gesture of the Board
armed for it. -/
structure Board.Sound (b : Board) : Prop where
  nodup : (b.items.map (·.loader)).Nodup
  presents : b.Presents
  gesture : ∀ g, b.gesture = some g → g.request.ofBoard = true →
    ∃ i ∈ b.items, i.presented = true ∧ i.loader = g.loader

/-- The soundness of the tables, with that of the Board apart. -/
theorem State.tablesSound_iff (s : State) :
    s.TablesSound ↔ (s.holds.entries.map (·.loader)).Nodup ∧
      (∀ e ∈ s.holds.entries, ∀ i ∈ s.board.items, e.loader ≠ i.loader) ∧
      (s.holds.posture ≠ .active → s.board.items = []) ∧
      (s.holds.posture = .standingDown → s.holds.entries ≠ []) ∧ s.board.Sound := by
  unfold State.TablesSound
  constructor
  · rintro ⟨h1, h2, h3, h4, h5, h6, h7⟩
    exact ⟨h1, h3, h5, h6, h2, h4, h7⟩
  · rintro ⟨h1, h3, h5, h6, h2, h4, h7⟩
    exact ⟨h1, h2, h3, h4, h5, h6, h7⟩

/-- R84: one presented item at most. -/
theorem Board.Sound.presented_le_one {b : Board} (h : b.Sound) : (b.items.filter (·.presented)).length ≤ 1 := by
  rw [h.presents]
  split <;> omega

/-- The Board after a loader's item has left: the others in their order, one of them presented, and a gesture for the
item ended. -/
theorem Board.Sound.without {b : Board} (h : b.Sound) (loader : Nat) {gesture : Option Gesture}
    (hgesture : ∀ g, gesture = some g → g.request.ofBoard = true → b.gesture = some g ∧ g.loader ≠ loader) :
    Board.Sound { items := shown (b.items.filter (·.loader ≠ loader)), gesture } := by
  have hnodup : ((b.items.filter (·.loader ≠ loader)).map (·.loader)).Nodup :=
    h.nodup.sublist (List.filter_sublist.map _)
  refine ⟨by simpa using hnodup, shown_presents hnodup ?_, ?_⟩
  · exact ((List.filter_sublist.filter _).length_le).trans h.presented_le_one
  · intro g hg hboard
    obtain ⟨harmed, hother⟩ := hgesture g hg hboard
    obtain ⟨i, hi, hp, hloader⟩ := h.gesture g harmed hboard
    exact ⟨i, shown_keeps_presented (List.mem_filter.mpr ⟨hi, by simpa [hloader] using hother⟩) hp, hp, hloader⟩

/-! ### Removal (R89) -/

/-- R84: the order of presentation is that of the levels. -/
theorem firstItem_eq_findSome? (items : List Item) :
    firstItem items = [1, 2, 3].findSome? fun level => items.find? (·.kind.level = level) := by
  simp only [firstItem, firstOfLevel, List.findSome?_cons, List.findSome?_nil]
  cases items.find? (·.kind.level = 1) with
  | some i => rfl
  | none =>
    cases items.find? (·.kind.level = 2) with
    | some i => rfl
    | none => cases items.find? (·.kind.level = 3) <;> rfl

/-- R84: the item that becomes presented when a loader's item leaves. -/
theorem Board.nextItem?_eq (loader : Nat) (b : Board) :
    b.nextItem? loader = nextPresented? (b.items.filter (·.loader ≠ loader)) := by
  simp [Board.nextItem?, nextPresented?, firstItem_eq_findSome?]

/-- R89: whether a gesture of the Board is armed for a loader's item. -/
theorem State.boardGesture_eq (loader : Nat) (s : State) :
    s.boardGesture loader = (s.board.gestureFor? loader).isSome := by
  unfold State.boardGesture Board.gestureFor?
  cases s.board.gesture with
  | none => rfl
  | some g => cases g with | mk l r d => cases r <;> by_cases h : l = loader <;> simp [Option.filter, h, GestureRequest.ofBoard]

/-- The removal of an item up to the presentation: its notice, and the end of a gesture armed for it. -/
def State.takenOff (loader : Nat) (n : Option Notice) (s : State) : State :=
  let t := State.post? n { s with board := { s.board with items := s.board.items.filter (·.loader ≠ loader) } }
  if t.boardGesture loader then t.failGesture .itemGone else t

@[simp] theorem State.post?_board (n : Option Notice) (s : State) : (s.post? n).board = s.board := by
  cases n <;> rfl

theorem State.post?_frame (n : Option Notice) (s : State) : s.post? n = { s with link := (s.post? n).link } := by
  cases n <;> rfl

theorem State.steps_post? (n : Option Notice) (s : State) : s.link.Steps (s.post? n).link := by
  cases n with
  | none => exact .refl _
  | some n => exact s.steps_post n

theorem State.removeItem_of_some {loader : Nat} {s : State} {i : Item} (h : s.item? loader = some i)
    (farewell : Farewell) :
    s.removeItem loader farewell = (s.takenOff loader (farewell.notice? i)).present := by
  simp [State.removeItem, h, State.takenOff]

theorem State.removeItem_of_none {loader : Nat} {s : State} (h : s.item? loader = none) (farewell : Farewell) :
    s.removeItem loader farewell = s := by
  simp [State.removeItem, h]

theorem State.takenOff_frame (loader : Nat) (n : Option Notice) (s : State) :
    s.takenOff loader n =
      { s with
        board :=
          { items := s.board.items.filter (·.loader ≠ loader)
            gesture := if (s.board.gestureFor? loader).isSome then none else s.board.gesture }
        link := (s.takenOff loader n).link } := by
  unfold State.takenOff
  simp only [State.boardGesture_eq, State.post?_board]
  have hgesture : Board.gestureFor? loader { s.board with items := s.board.items.filter (·.loader ≠ loader) } =
      s.board.gestureFor? loader := rfl
  rw [hgesture]
  split
  · next h => rw [State.failGesture_frame, State.post?_frame]
  · next h => rw [State.post?_frame]

theorem State.steps_takenOff (loader : Nat) (n : Option Notice) (s : State) :
    s.link.Steps (s.takenOff loader n).link := by
  unfold State.takenOff
  dsimp only
  split
  · refine .trans ?_ (State.steps_failGesture _ _)
    exact State.steps_post? n { s with board := { s.board with items := s.board.items.filter (·.loader ≠ loader) } }
  · exact State.steps_post? n { s with board := { s.board with items := s.board.items.filter (·.loader ≠ loader) } }

/-- R84, R89: what a removal leaves of the state beside the Local Link. -/
theorem State.removeItem_frame (loader : Nat) (farewell : Farewell) (s : State) :
    s.removeItem loader farewell =
      { s.withoutItem loader with link := (s.removeItem loader farewell).link } := by
  cases hitem : s.item? loader with
  | none => simp [State.removeItem_of_none hitem, State.withoutItem, hitem]
  | some i =>
    rw [State.removeItem_of_some hitem, State.present_frame, State.takenOff_frame]
    simp only [State.withoutItem, hitem, Board.nextItem?_eq]
    simp [shown, markPresented] <;> cases nextPresented? (s.board.items.filter (·.loader ≠ loader)) <;> rfl

theorem State.steps_removeItem (loader : Nat) (farewell : Farewell) (s : State) :
    s.link.Steps (s.removeItem loader farewell).link := by
  cases hitem : s.item? loader with
  | none => rw [State.removeItem_of_none hitem]; exact .refl _
  | some i =>
    rw [State.removeItem_of_some hitem]
    exact (s.steps_takenOff loader _).trans (State.steps_present _)

/-- R84, R89: the items and the gesture after a removal. -/
theorem State.withoutItem_board {loader : Nat} {s : State} {i : Item} (h : s.item? loader = some i) :
    (s.withoutItem loader).board =
      { items := shown (s.board.items.filter (·.loader ≠ loader))
        gesture := if (s.board.gestureFor? loader).isSome then none else s.board.gesture } := by
  simp only [State.withoutItem, h, Board.nextItem?_eq]
  simp [shown, markPresented] <;> cases nextPresented? (s.board.items.filter (·.loader ≠ loader)) <;> rfl

/-- R84, R89: a removal leaves a sound Board. -/
theorem Board.Sound.withoutItem {s : State} (h : s.board.Sound) (loader : Nat) :
    (s.withoutItem loader).board.Sound := by
  cases hitem : s.item? loader with
  | none => simpa [State.withoutItem, hitem] using h
  | some i =>
    rw [State.withoutItem_board hitem]
    refine h.without loader fun g hg hboard => ?_
    split at hg
    · cases hg
    · next hnot =>
      refine ⟨hg, fun hloader => hnot ?_⟩
      rw [← State.boardGesture_eq]
      simp [State.boardGesture, hg, hboard, hloader]

/-- The items after a removal are, by their loaders, those of the other loaders. -/
theorem State.withoutItem_loaders (loader : Nat) (s : State) :
    (s.withoutItem loader).board.items.map (·.loader) =
      (s.board.items.filter (·.loader ≠ loader)).map (·.loader) := by
  cases hitem : s.item? loader with
  | some i => rw [State.withoutItem_board hitem]; exact shown_loaders _
  | none =>
    have hall : ∀ i ∈ s.board.items, i.loader ≠ loader := by simpa [State.item?] using hitem
    have hkept : s.board.items.filter (·.loader ≠ loader) = s.board.items :=
      List.filter_eq_self.mpr (by simpa using hall)
    rw [hkept]
    simp [State.withoutItem, hitem]

theorem State.withoutItem_items_length_le (loader : Nat) (s : State) :
    (s.withoutItem loader).board.items.length ≤ s.board.items.length := by
  have hlength := congrArg List.length (s.withoutItem_loaders loader)
  rw [List.length_map, List.length_map] at hlength
  exact hlength.trans_le (List.length_filter_le _ _)

/-- What stands on the Board after a removal is for another loader, and a loader's item stood there before. -/
theorem State.loader_of_mem_withoutItem {loader : Nat} {s : State} {i : Item}
    (h : i ∈ (s.withoutItem loader).board.items) : i.loader ≠ loader ∧ ∃ j ∈ s.board.items, j.loader = i.loader := by
  have hmem : i.loader ∈ (s.withoutItem loader).board.items.map (·.loader) := List.mem_map.mpr ⟨i, h, rfl⟩
  rw [State.withoutItem_loaders] at hmem
  obtain ⟨j, hj, hloader⟩ := List.mem_map.mp hmem
  obtain ⟨hj, hne⟩ := List.mem_filter.mp hj
  exact ⟨by simpa [hloader] using hne, j, hj, hloader⟩

/-- A removal touches the Board, the indicator and the Local Link alone. -/
theorem State.withoutItem_frame (loader : Nat) (s : State) :
    s.withoutItem loader =
      { s with
        board := (s.withoutItem loader).board
        discrete := { s.discrete with indicator := (s.withoutItem loader).discrete.indicator } } := by
  unfold State.withoutItem
  split <;> rfl

/-! ### Boarding and replacement (R87, R88) -/

/-- Of different loaders' items, one is the first of a list that has the others in their order. -/
theorem perm_cons_filter_loader {items : List Item} {old : Item} (hold : old ∈ items)
    (hnodup : (items.map (·.loader)).Nodup) :
    items.Perm (old :: items.filter (·.loader ≠ old.loader)) := by
  induction items with
  | nil => simp at hold
  | cons j rest ih =>
    rw [List.map_cons, List.nodup_cons] at hnodup
    obtain ⟨hfresh, hnodup⟩ := hnodup
    by_cases hloader : j.loader = old.loader
    · have hkept : rest.filter (·.loader ≠ old.loader) = rest := by
        refine List.filter_eq_self.mpr fun k hk => ?_
        have hne : k.loader ≠ old.loader := fun he =>
          hfresh (hloader ▸ he ▸ List.mem_map.mpr ⟨k, hk, rfl⟩)
        simpa using hne
      have hj : old = j := by
        rcases List.mem_cons.mp hold with h | h
        · exact h
        · exact absurd (List.mem_map.mpr ⟨old, h, hloader.symm⟩) hfresh
      subst hj
      rw [List.filter_cons_of_neg (by simp), hkept]
    · have hmem : old ∈ rest := by
        rcases List.mem_cons.mp hold with rfl | h
        · exact absurd rfl hloader
        · exact h
      rw [List.filter_cons_of_pos (by simpa using hloader)]
      exact ((ih hmem hnodup).cons j).trans (.swap ..)

theorem State.item?_some {loader : Nat} {s : State} {i : Item} (h : s.item? loader = some i) :
    i.loader = loader ∧ i ∈ s.board.items :=
  ⟨by simpa using List.find?_some h, List.mem_of_find?_eq_some h⟩

/-- R88: a newcomer at the last place, with the presentation that follows, leaves a sound Board. -/
theorem Board.Sound.joined {b : Board} (h : b.Sound) {item : Item} (hnew : ∀ j ∈ b.items, j.loader ≠ item.loader)
    (hp : item.presented = false) : Board.Sound { b with items := shown (b.items ++ [item]) } := by
  have hnodup : ((b.items ++ [item]).map (·.loader)).Nodup := by
    rw [List.map_append, List.nodup_append]
    refine ⟨h.nodup, by simp, ?_⟩
    intro l hl l' hl'
    obtain ⟨j, hj, rfl⟩ := List.mem_map.mp hl
    simp only [List.map_cons, List.map_nil, List.mem_singleton] at hl'
    exact hl' ▸ hnew j hj
  refine ⟨by simpa using hnodup, shown_presents hnodup ?_, fun g hg hboard => ?_⟩
  · simpa [hp] using h.presented_le_one
  · obtain ⟨i, hi, hpi, hloader⟩ := h.gesture g hg hboard
    exact ⟨i, shown_keeps_presented (by simp [hi]) hpi, hpi, hloader⟩

/-- R87: an item that takes the place of its loader's item, at the last place and with its mark, leaves a sound Board. -/
theorem Board.Sound.replaced {b : Board} (h : b.Sound) {old new : Item} (hold : old ∈ b.items)
    (hloader : new.loader = old.loader) (hp : new.presented = old.presented) {gesture : Option Gesture}
    (hgesture : ∀ g, gesture = some g → b.gesture = some g) :
    Board.Sound { items := b.items.filter (·.loader ≠ new.loader) ++ [new], gesture } := by
  rw [hloader]
  have hperm := perm_cons_filter_loader hold h.nodup
  refine ⟨?_, ?_, fun g hg hboard => ?_⟩
  · have hmap := (hperm.map (·.loader)).nodup_iff.mp h.nodup
    rw [List.map_append, List.nodup_append_comm]
    simpa [hloader] using hmap
  · have hcount := (hperm.filter (·.presented)).length_eq
    have hpresents := h.presents
    have hne : b.items.isEmpty = false := by
      cases hb : b.items with
      | nil => simp [hb] at hold
      | cons => rfl
    unfold Board.Presents at hpresents ⊢
    rw [hne] at hpresents
    rw [List.filter_append, List.length_append]
    rw [List.filter_cons] at hcount
    cases hpo : old.presented
    · simp_all
    · simp_all
  · obtain ⟨i, hi, hpi, hil⟩ := h.gesture g (hgesture g hg) hboard
    rcases List.mem_cons.mp (hperm.mem_iff.mp hi) with rfl | hrest
    · exact ⟨new, by simp, hp.trans hpi, hloader.trans hil⟩
    · exact ⟨i, List.mem_append_left _ hrest, hpi, hil⟩

end Sys2Proof.Machine
end

/-!
PROOFS. The moves of the chair's part: changes of the Hold Table, the Board and the gesture, the Relay's chair side, the
stop list and the filters (chapters 4, 5, 8 and 9).
-/
section

namespace Sys2Proof.Machine

/-! ### Changes of the Hold Table -/

/-- A change of the Hold Table that adds no entry, does not leave posture ACTIVE, and in STANDING_DOWN leaves an entry. -/
structure Holds.Follows (h h' : Holds) : Prop where
  loaders : (h'.entries.map (·.loader)).Sublist (h.entries.map (·.loader))
  active : h.posture = .active → h'.posture = .active
  standing : h'.posture = .standingDown → h'.entries ≠ [] ∨
    (h.posture = .standingDown ∧ (h.entries ≠ [] → h'.entries ≠ []))

theorem State.TablesSound.follows {s t : State} (hs : s.TablesSound) (h : s.holds.Follows t.holds)
    (hboard : t.board = s.board) : t.TablesSound := by
  obtain ⟨hnodup, hapart, hposture, hstanding, hsound⟩ := (State.tablesSound_iff s).mp hs
  refine (State.tablesSound_iff t).mpr ⟨hnodup.sublist h.loaders, ?_, ?_, ?_, by rwa [hboard]⟩
  · intro e he i hi
    obtain ⟨e', he', hloader⟩ := List.mem_map.mp (h.loaders.subset (List.mem_map.mpr ⟨e, he, rfl⟩))
    exact hloader ▸ hapart e' he' i (hboard ▸ hi)
  · intro hp
    rw [hboard]
    exact hposture fun hactive => hp (h.active hactive)
  · intro hp
    rcases h.standing hp with hne | ⟨hs', hkeep⟩
    · exact hne
    · exact hkeep (hstanding hs')

theorem Holds.Follows.length_le {h h' : Holds} (hf : h.Follows h') : h'.entries.length ≤ h.entries.length := by
  simpa using hf.loaders.length_le

/-- A change of the Hold Table that keeps its loaders and its posture. -/
theorem Holds.Follows.of_loaders {h h' : Holds} (hl : h'.entries.map (·.loader) = h.entries.map (·.loader))
    (hp : h'.posture = h.posture) : h.Follows h' := by
  refine ⟨by rw [hl], fun h => hp ▸ h, fun hs => .inr ⟨hp ▸ hs, fun hne hnil => hne ?_⟩⟩
  simpa [hnil] using hl.symm

/-- In an active chair, a change of the Hold Table that `Follows` allows, with steps of the LIU and the Local Link. -/
theorem State.moves_follows {s t : State} (hchair : s.activeAs .chair = true) (h : s.holds.Follows t.holds)
    (hliu : s.liu.Bounded → t.liu.Bounded) (hlink : s.link.Steps t.link)
    (hframe : t = { s with holds := t.holds, liu := t.liu, link := t.link }) : s.Moves t := by
  rw [hframe]
  refine .chair hchair (fun hs => hs.follows h rfl) (fun hs => ?_) hlink
  obtain ⟨hq, hentries, hitems, hlist, hk⟩ := (State.bounded_iff s).mp hs
  exact (State.bounded_iff _).mpr ⟨hliu hq, h.length_le.trans hentries, hitems, hlist, hlink.bounded hk⟩

/-- In an active chair, a change of the Hold Table alone. -/
theorem State.moves_holds {s : State} (hchair : s.activeAs .chair = true) (h : Holds) (hf : s.holds.Follows h) :
    s.Moves { s with holds := h } :=
  State.moves_follows hchair hf id (.refl _) rfl

/-- A change of an entry that keeps its loader. -/
theorem State.moves_mapEntry {s : State} (hchair : s.activeAs .chair = true) (loader : Nat) {f : Entry → Entry}
    (hf : ∀ e, (f e).loader = e.loader) : s.Moves (s.mapEntry loader f) :=
  State.moves_holds hchair _ (.of_loaders (State.mapEntry_loaders loader f s hf) rfl)

@[simp] theorem Entry.settleSupervise_loader (e : Entry) : e.settleSupervise.loader = e.loader := by
  unfold Entry.settleSupervise
  split <;> rfl

@[simp] theorem Entry.enter_loader (p : Phase) (e : Entry) : (e.enter p).loader = e.loader := by
  simp [Entry.enter]

@[simp] theorem Entry.takeMode_loader (m : Mode) (e : Entry) : (e.takeMode m).loader = e.loader := by
  cases m <;> rfl

/-- The role and the activity of a part go with it along its moves. -/
theorem State.Moves.activeAs {s t : State} (h : s.Moves t) {r : Role} (hr : s.activeAs r = true) :
    t.activeAs r = true := by
  rw [State.activeAs_congr r h.startup]; exact hr

theorem State.Moves.active {s t : State} (h : s.Moves t) (hr : s.active = true) : t.active = true := by
  rw [State.active_congr h.startup]; exact hr

theorem State.Moves.inService {s t : State} (h : s.Moves t) (hr : s.inService = true) : t.inService = true := by
  rw [State.inService_congr h.startup]; exact hr

theorem State.inService_of_activeAs {s : State} {r : Role} (h : s.activeAs r = true) : s.inService = true :=
  State.inService_of_active (State.activeAs_iff.mp h).1

theorem State.moves_giveOut {s : State} (hchair : s.activeAs .chair = true) (loader : Nat) (o : Outstanding) :
    s.Moves (s.giveOut loader o) :=
  (State.moves_give _ s).trans (State.moves_holds ((State.moves_give _ s).activeAs hchair) _ (.of_loaders rfl rfl))

theorem State.moves_claimAgain {s : State} (hchair : s.activeAs .chair = true) (loader : Nat) (g : Origin) (m : Mode)
    (e : Epoch) : s.Moves (s.claimAgain loader g m e) :=
  (State.moves_giveOut hchair _ _).trans
    (State.moves_mapEntry ((State.moves_giveOut hchair _ _).activeAs hchair) _ (by simp))

theorem State.moves_sendRelease {s : State} (hchair : s.activeAs .chair = true) (loader : Nat) (e : Epoch) :
    s.Moves (s.sendRelease loader e) :=
  (State.moves_giveOut hchair _ _).trans
    (State.moves_mapEntry ((State.moves_giveOut hchair _ _).activeAs hchair) _ (by simp))

theorem State.moves_releaseOver {s : State} (hchair : s.activeAs .chair = true) (loader : Nat) (m : Mode) (e : Epoch) :
    s.Moves (s.releaseOver loader m e) := by
  have hmode := State.moves_mapEntry hchair loader (Entry.takeMode_loader m)
  exact hmode.trans (State.moves_sendRelease (hmode.activeAs hchair) loader e)

theorem State.moves_giveSupervise {s : State} (hchair : s.activeAs .chair = true) (loader : Nat) :
    s.Moves (s.giveSupervise loader) := by
  unfold State.giveSupervise
  split
  · exact .refl s
  · split
    · exact (State.moves_give _ s).trans
        (State.moves_mapEntry ((State.moves_give _ s).activeAs hchair) _ (fun _ => rfl))
    · exact .refl s

theorem State.moves_acquired {s : State} (hchair : s.activeAs .chair = true) (loader : Nat) (m : Mode) (e : Epoch)
    (k : FrameKind) (c : Bool) : s.Moves (s.acquired loader m e k c) := by
  have hheld : s.Moves (s.mapEntry loader fun x =>
      Entry.enter (.held none) { x.takeMode m with epoch := e, assist := x.assist && !c }) :=
    State.moves_mapEntry hchair loader (by simp)
  have htold := hheld.trans (State.moves_tell (.acquired loader m e k)
    (State.inService_of_activeAs (hheld.activeAs hchair)))
  exact htold.trans (State.moves_giveSupervise (htold.activeAs hchair) loader)

theorem State.moves_endOffer {s : State} (hchair : s.activeAs .chair = true) (loader : Nat) (o : ChairOffer) :
    s.Moves (s.endOffer loader o) :=
  State.moves_mapEntry hchair loader (by simp)

/-! ### The removal of an entry (R54) -/

/-- R54: the Hold Table after a loader's entry has left it. -/
def Holds.without (loader : Nat) (h : Holds) : Holds :=
  let left := h.entries.filter (·.loader ≠ loader)
  { h with entries := left, posture := if h.posture = .standingDown ∧ left = [] then .vacant else h.posture }

theorem State.tell_frame (n : Notice) (s : State) : s.tell n = { s with link := (s.tell n).link } := by
  unfold State.tell
  split <;> rfl

/-- R54, R81: what a removal leaves of the state beside the Local Link. -/
theorem State.leave_frame (loader : Nat) (n : Notice) (s : State) :
    s.leave loader n = { s with holds := s.holds.without loader, link := (s.leave loader n).link } := by
  unfold State.leave State.settlePosture
  simp only []
  rw [State.tell_frame]
  simp only [Holds.without, List.isEmpty_iff]
  split
  · next h => simp only [h]; rfl
  · rfl

theorem State.steps_leave (loader : Nat) (n : Notice) (s : State) : s.link.Steps (s.leave loader n).link := by
  unfold State.leave State.settlePosture
  have htold := State.steps_tell n
    { s with holds := { s.holds with entries := s.holds.entries.filter (·.loader ≠ loader) } }
  dsimp only
  split
  · exact htold.trans (State.steps_post _ _)
  · exact htold

theorem Holds.without_follows (loader : Nat) (h : Holds) : h.Follows (h.without loader) := by
  refine ⟨List.filter_sublist.map _, fun ha => ?_, fun hs => .inl fun hnil => ?_⟩
  · simp [Holds.without, ha]
  · simp only [Holds.without] at hs hnil
    split at hs
    · cases hs
    · next hnot => exact hnot ⟨hs, hnil⟩

theorem State.moves_leave {s : State} (hchair : s.activeAs .chair = true) (loader : Nat) (n : Notice) :
    s.Moves (s.leave loader n) := by
  have hframe := s.leave_frame loader n
  have hholds : (s.leave loader n).holds = s.holds.without loader := by rw [hframe]
  refine State.moves_follows hchair (hholds ▸ s.holds.without_follows loader) (by simp) (s.steps_leave loader n) ?_
  rw [hholds, State.leave_liu]
  exact hframe

/-! ### Changes of the Board (section 5) -/

/-- In an active chair, a change of the Board that keeps it sound, with the indicator and steps of the Local Link. -/
theorem State.moves_board {s t : State} (hchair : s.activeAs .chair = true)
    (hsound : s.TablesSound → t.TablesSound) (hlength : s.Bounded → t.board.items.length ≤ 8)
    (hlink : s.link.Steps t.link)
    (hframe : t = { s with board := t.board, discrete := { s.discrete with indicator := t.discrete.indicator }, link := t.link }) :
    s.Moves t := by
  rw [hframe] at hsound ⊢
  refine .chair hchair hsound (fun hs => ?_) hlink
  obtain ⟨hq, hentries, _, hlist, hk⟩ := (State.bounded_iff s).mp hs
  exact (State.bounded_iff _).mpr ⟨hq, hentries, hlength hs, hlist, hlink.bounded hk⟩

/-- A Board that stays sound, of loaders that stood on it, stays sound with the Hold Table. -/
theorem State.TablesSound.of_board {s t : State} (hs : s.TablesSound) (hholds : t.holds = s.holds)
    (hsound : s.board.Sound → t.board.Sound)
    (hloaders : ∀ i ∈ t.board.items, ∃ j ∈ s.board.items, j.loader = i.loader) : t.TablesSound := by
  obtain ⟨hnodup, hapart, hposture, hstanding, hboard⟩ := (State.tablesSound_iff s).mp hs
  refine (State.tablesSound_iff t).mpr ⟨by rwa [hholds], ?_, ?_, by rwa [hholds], hsound hboard⟩
  · intro e he i hi
    obtain ⟨j, hj, hloader⟩ := hloaders i hi
    exact hloader ▸ hapart e (hholds ▸ he) j hj
  · intro hp
    rw [hholds] at hp
    refine List.eq_nil_iff_forall_not_mem.mpr fun i hi => ?_
    obtain ⟨j, hj, _⟩ := hloaders i hi
    simp [hposture hp] at hj

theorem State.moves_removeItem {s : State} (hchair : s.activeAs .chair = true) (loader : Nat) (w : Farewell) :
    s.Moves (s.removeItem loader w) := by
  have hframe := s.removeItem_frame loader w
  have hboard : (s.removeItem loader w).board = (s.withoutItem loader).board := by rw [hframe]
  refine State.moves_board hchair (fun hs => ?_) (fun hs => ?_) (s.steps_removeItem loader w) ?_
  · refine hs.of_board (by simp) (fun hb => hboard ▸ hb.withoutItem loader) fun i hi => ?_
    exact (State.loader_of_mem_withoutItem (hboard ▸ hi)).2
  · rw [hboard]
    exact (s.withoutItem_items_length_le loader).trans ((State.bounded_iff s).mp hs).2.2.1
  · rw [hframe, State.withoutItem_frame]

/-- A gesture that is no longer armed leaves the Board sound. -/
theorem Board.Sound.disarmed {b : Board} (h : b.Sound) : Board.Sound { b with gesture := none } :=
  ⟨h.nodup, h.presents, fun _ hg => by cases hg⟩

theorem State.moves_disarm {s : State} (hchair : s.activeAs .chair = true) :
    s.Moves { s with board := { s.board with gesture := none } } :=
  State.moves_board hchair (fun hs => hs.of_board rfl Board.Sound.disarmed fun i hi => ⟨i, hi, rfl⟩)
    (fun hs => ((State.bounded_iff s).mp hs).2.2.1) (.refl _) rfl

theorem State.moves_failGesture {s : State} (hchair : s.activeAs .chair = true) (c : GestureCause) :
    s.Moves (s.failGesture c) := by
  unfold State.failGesture
  split
  · exact .refl s
  · exact (State.moves_disarm hchair).trans (State.moves_post _ (State.inService_of_activeAs hchair))

/-- R98: a gesture is armed; one of the Board is armed for the presented item. -/
theorem State.moves_armGesture {s : State} (hchair : s.activeAs .chair = true) (r : GestureRequest) (loader : Nat)
    (hitem : r.ofBoard = true → ∃ i ∈ s.board.items, i.presented = true ∧ i.loader = loader) :
    s.Moves (s.armGesture r loader) := by
  refine State.moves_board hchair (fun hs => hs.of_board rfl (fun hb => ⟨hb.nodup, hb.presents, ?_⟩) fun i hi => ⟨i, hi, rfl⟩)
    (fun hs => ((State.bounded_iff s).mp hs).2.2.1) (.refl _) rfl
  rintro g hg hboard
  obtain rfl : _ = g := by simpa [State.armGesture] using hg
  exact hitem hboard

theorem State.joinBoard_frame (item : Item) (s : State) :
    s.joinBoard item =
      { s with
        board := { s.board with items := shown (s.board.items ++ [item]) }
        discrete := { s.discrete with indicator := true }
        link := (s.joinBoard item).link } := by
  unfold State.joinBoard
  rw [State.present_frame]
  simp [State.post]

theorem State.steps_joinBoard (item : Item) (s : State) : s.link.Steps (s.joinBoard item).link := by
  unfold State.joinBoard
  exact .trans (State.steps_post (.boarded item.loader item.kind item.mode)
    { s with board := { s.board with items := s.board.items ++ [item] } }) (State.steps_present _)

/-- R88: a newcomer boarded in posture ACTIVE, for a loader that is neither held nor boarded, leaves the tables sound. -/
theorem State.TablesSound.joinBoard {s : State} (hs : s.TablesSound) {item : Item} (hactive : s.holds.posture = .active)
    (hheld : s.entry? item.loader = none) (hnew : s.item? item.loader = none) (hp : item.presented = false) :
    (s.joinBoard item).TablesSound := by
  have hloaders : ∀ j ∈ s.board.items, j.loader ≠ item.loader := by simpa [State.item?] using hnew
  have hentries : ∀ e ∈ s.holds.entries, e.loader ≠ item.loader := by simpa [State.entry?] using hheld
  obtain ⟨hnodup, hapart, hposture, hstanding, hboard⟩ := (State.tablesSound_iff s).mp hs
  rw [s.joinBoard_frame item]
  refine (State.tablesSound_iff _).mpr
    ⟨hnodup, fun e he i hi => ?_, fun hp => absurd hactive hp, hstanding, hboard.joined hloaders hp⟩
  have hmem : i.loader ∈ (shown (s.board.items ++ [item])).map (·.loader) := List.mem_map.mpr ⟨i, hi, rfl⟩
  rw [shown_loaders, List.map_append, List.mem_append] at hmem
  rcases hmem with hmem | hmem
  · obtain ⟨j, hj, hloader⟩ := List.mem_map.mp hmem
    exact hloader ▸ hapart e he j hj
  · simp only [List.map_cons, List.map_nil, List.mem_singleton] at hmem
    exact hmem ▸ hentries e he

theorem State.moves_joinBoard {s : State} (hchair : s.activeAs .chair = true) {item : Item}
    (hactive : s.holds.posture = .active) (hheld : s.entry? item.loader = none) (hnew : s.item? item.loader = none)
    (hroom : s.board.items.length < 8) (hp : item.presented = false) : s.Moves (s.joinBoard item) := by
  have hframe := s.joinBoard_frame item
  refine State.moves_board hchair (fun hs => hs.joinBoard hactive hheld hnew hp) (fun _ => ?_) (s.steps_joinBoard item)
    (by rw [hframe])
  rw [hframe]
  simpa using hroom

/-- The removal of a loader's item leaves an item of another loader absent where it was absent. -/
theorem State.item?_removeItem_none {s : State} {l loader : Nat} {w : Farewell} (h : s.item? loader = none) :
    (s.removeItem l w).item? loader = none := by
  have hnone : ∀ i ∈ s.board.items, i.loader ≠ loader := by simpa [State.item?] using h
  rw [State.item?, List.find?_eq_none, State.removeItem_frame]
  intro i hi
  obtain ⟨_, j, hj, hloader⟩ := State.loader_of_mem_withoutItem hi
  simpa [hloader] using hnone j hj

/-- A removal of an item that stands on the Board makes room. -/
theorem State.removeItem_items_length_lt {s : State} {i : Item} (hi : i ∈ s.board.items) (w : Farewell) :
    (s.removeItem i.loader w).board.items.length < s.board.items.length := by
  have hitems : (s.removeItem i.loader w).board.items = (s.withoutItem i.loader).board.items := by
    rw [State.removeItem_frame]
  have hlength := congrArg List.length (s.withoutItem_loaders i.loader)
  rw [List.length_map, List.length_map] at hlength
  rw [hitems, hlength]
  exact List.length_filter_lt_length_iff_exists.mpr ⟨i, hi, by simp⟩

/-- R88: a newcomer takes the room of an item that it displaces. -/
theorem State.moves_displace {s : State} (hchair : s.activeAs .chair = true) {gone item : Item}
    (hgone : gone ∈ s.board.items) (hactive : s.holds.posture = .active) (hheld : s.entry? item.loader = none)
    (hnew : s.item? item.loader = none) (hp : item.presented = false) (w : Farewell) :
    s.Moves ((s.removeItem gone.loader w).joinBoard item) := by
  set u := s.removeItem gone.loader w with hu
  have hremoved : s.Moves u := State.moves_removeItem hchair gone.loader w
  have hframe := u.joinBoard_frame item
  have hdiscrete : u.discrete = { s.discrete with indicator := u.discrete.indicator } := by
    rw [hu, State.removeItem_frame, State.withoutItem_frame]
  have hframe' : u.joinBoard item = { s with
      board := (u.joinBoard item).board
      discrete := { s.discrete with indicator := (u.joinBoard item).discrete.indicator }
      link := (u.joinBoard item).link } := by
    rw [hframe, hdiscrete, hu, State.removeItem_frame, State.withoutItem_frame]
  refine State.moves_board hchair (fun hs => ?_) (fun hs => ?_)
    ((s.steps_removeItem _ w).trans (u.steps_joinBoard item)) hframe'
  · exact (hremoved.tables hs).joinBoard (by simpa [hu] using hactive) (by simpa [hu, State.entry?] using hheld)
      (State.item?_removeItem_none hnew) hp
  · have hlt : u.board.items.length < s.board.items.length := State.removeItem_items_length_lt hgone w
    have hitems := ((State.bounded_iff s).mp hs).2.2.1
    rw [hframe, shown_length, List.length_append, List.length_singleton]
    omega

/-- R87: whether the gesture of the Board armed for an item ends with the item's replacement. -/
def State.replaceEnds (old new : Item) (s : State) : Bool :=
  old.presented && (s.board.gestureFor? new.loader).isSome &&
    !(old.kind.sameKind new.kind && decide (old.mode = new.mode) && decide (old.kind.offering? = new.kind.offering?))

/-- R87: what a replacement leaves of the state. -/
theorem State.replaceItem_frame (old new : Item) (s : State) :
    s.replaceItem old new =
      { s with
        board :=
          { items := s.board.items.filter (·.loader ≠ new.loader) ++ [{ new with presented := old.presented }]
            gesture := if s.replaceEnds old new then none else s.board.gesture }
        link := (s.replaceItem old new).link } := by
  have hgesture (items : List Item) :
      Board.gestureFor? new.loader { s.board with items := items } = s.board.gestureFor? new.loader := rfl
  have hfail (ends : Bool) (u : State) :
      (if ends = true then u.failGesture .itemChanged else u) =
        { u with
          board := { u.board with gesture := if ends = true then none else u.board.gesture }
          link := (if ends = true then u.failGesture .itemChanged else u).link } := by
    cases ends
    · rfl
    · exact u.failGesture_frame _
  unfold State.replaceItem State.replaceEnds
  simp only [State.boardGesture_eq, hgesture]
  split
  · rw [hfail]; rfl
  · rw [hfail]

theorem State.steps_announceItem (i : Item) (s : State) : s.link.Steps (s.announceItem i).link :=
  (State.steps_post _ s).trans (Link.steps_raise _ _)

theorem State.steps_replaceItem (old new : Item) (s : State) : s.link.Steps (s.replaceItem old new).link := by
  unfold State.replaceItem
  set u : State := { s with board := { s.board with
    items := s.board.items.filter (·.loader ≠ new.loader) ++ [{ new with presented := old.presented }] } }
  have hu : s.link = u.link := rfl
  rw [hu]
  dsimp only
  split <;> split
  · exact (State.steps_failGesture _ u).trans (State.steps_announceItem _ _)
  · exact State.steps_announceItem _ u
  · exact State.steps_failGesture _ u
  · exact .refl _

theorem State.moves_replaceItem {s : State} (hchair : s.activeAs .chair = true) {old new : Item}
    (hold : s.item? new.loader = some old) : s.Moves (s.replaceItem old new) := by
  have hframe := s.replaceItem_frame old new
  obtain ⟨hloader, hmem⟩ := State.item?_some hold
  have hboard : (s.replaceItem old new).board.items =
      s.board.items.filter (·.loader ≠ old.loader) ++ [{ new with presented := old.presented }] := by
    rw [hframe, hloader]
  refine State.moves_board hchair (fun hs => hs.of_board (by rw [hframe]) (fun hb => ?_) fun i hi => ?_) (fun hs => ?_)
    (s.steps_replaceItem old new) ?_
  · rw [hframe]
    refine hb.replaced (new := { new with presented := old.presented }) hmem hloader.symm rfl fun g hg => ?_
    split at hg
    · cases hg
    · exact hg
  · rw [hboard] at hi
    rcases List.mem_append.mp hi with hi | hi
    · exact ⟨i, List.mem_of_mem_filter hi, rfl⟩
    · obtain rfl := List.mem_singleton.mp hi
      exact ⟨old, hmem, hloader⟩
  · have hitems := ((State.bounded_iff s).mp hs).2.2.1
    have hlt : (s.board.items.filter (·.loader ≠ old.loader)).length < s.board.items.length :=
      List.length_filter_lt_length_iff_exists.mpr ⟨old, hmem, by simp⟩
    rw [hboard, List.length_append, List.length_singleton]
    omega
  · rw [hframe]

/-! ### An entry is added (R55, R92) -/

/-- R55, R60: the entry that is added. -/
def State.newEntry (loader : Nat) (k : OutKind) (m : Mode) (e : Epoch) (s : State) : Entry :=
  { loader, mode := m, phase := .acquiring .new (s.newOut k (some m) e), epoch := e
    continueOk := decide (m = .supervise), addedAt := s.now, absence := some (s.now + s.absenceTime) }

/-- R55, R57: what the addition of an entry leaves of the state. -/
theorem State.addEntry_frame (loader : Nat) (k : OutKind) (m : Mode) (e : Epoch) (s : State) :
    s.addEntry loader k m e =
      { s with
        holds := { s.holds with
          entries := s.holds.entries ++ [s.newEntry loader k m e], nextRef := s.holds.nextRef + 1 }
        liu := (s.give ((s.newOut k (some m) e).frame loader)).liu
        link := (s.give ((s.newOut k (some m) e).frame loader)).link } := by
  unfold State.addEntry State.giveOut
  dsimp only
  rw [State.give_frame]
  rfl

/-- R55, R60, R92: an entry is added for a loader that is not held, and its item leaves the Board. The loader may be told
not to be held by its item. -/
theorem State.moves_enter {s : State} (hchair : s.activeAs .chair = true) (loader : Nat) (k : OutKind) (m : Mode)
    (e : Epoch) (hroom : s.holds.entries.length < 6)
    (hheld : s.entry? loader = none ∨ ∃ i ∈ s.board.items, i.loader = loader) :
    s.Moves ((s.addEntry loader k m e).removeItem loader .silent) := by
  set u := s.addEntry loader k m e with hu
  have hframe := s.addEntry_frame loader k m e
  have hentries : u.holds.entries = s.holds.entries ++ [s.newEntry loader k m e] := by rw [hu, hframe]
  have hposture : u.holds.posture = s.holds.posture := by rw [hu, hframe]
  have hboard : u.board = s.board := by rw [hu, hframe]
  have hliu : u.liu = (s.give ((s.newOut k (some m) e).frame loader)).liu := by rw [hu, hframe]
  have hlink : u.link = (s.give ((s.newOut k (some m) e).frame loader)).link := by rw [hu, hframe]
  have hremoved := u.removeItem_frame loader .silent
  have hitems : (u.removeItem loader .silent).board = (u.withoutItem loader).board := by rw [hremoved]
  have hgive := State.moves_give ((s.newOut k (some m) e).frame loader) s
  have hsteps : s.link.Steps u.link := by
    rw [hlink]
    unfold State.give
    split
    · split
      · exact .refl _
      · exact Link.steps_raise _ _
    · exact .refl _
  refine .chair hchair (fun hs => ?_) (fun hs => ?_) (hsteps.trans (u.steps_removeItem loader .silent))
    (hpending := by simp [hu]) (hstartup := by simp [hu]) (hnow := by simp [hu]) (hrecord := by simp [hu])
    (hmonitor := by simp [hu]) (henvelope := by simp [hu]) (hrelay := by simp [hu])
    (hlatch := by rw [hremoved, State.withoutItem_frame]; simp [hu])
    (hmotion := by rw [hremoved, State.withoutItem_frame]; simp [hu])
  · obtain ⟨hnodup, hapart, hempty, _, hsound⟩ := (State.tablesSound_iff s).mp hs
    have hnew : ∀ x ∈ s.holds.entries, x.loader ≠ loader := by
      rcases hheld with hnone | ⟨i, hi, rfl⟩
      · simpa [State.entry?] using hnone
      · exact fun x hx => hapart x hx i hi
    refine (State.tablesSound_iff _).mpr ⟨?_, fun x hx i hi => ?_, fun hp => ?_, fun _ => ?_, ?_⟩
    · rw [State.removeItem_holds, hentries, List.map_append, List.nodup_append]
      refine ⟨hnodup, by simp, fun l hl l' hl' => ?_⟩
      obtain ⟨x, hx, rfl⟩ := List.mem_map.mp hl
      simp only [List.map_cons, List.map_nil, List.mem_singleton] at hl'
      exact hl' ▸ hnew x hx
    · rw [hitems] at hi
      obtain ⟨hne, j, hj, hloader⟩ := State.loader_of_mem_withoutItem hi
      rw [State.removeItem_holds, hentries, List.mem_append, List.mem_singleton] at hx
      rcases hx with hx | rfl
      · exact hloader ▸ hapart x hx j (hboard ▸ hj)
      · exact fun h => hne h.symm
    · rw [State.removeItem_holds, hposture] at hp
      rw [hitems]
      refine List.eq_nil_iff_forall_not_mem.mpr fun i hi => ?_
      obtain ⟨_, j, hj, _⟩ := State.loader_of_mem_withoutItem hi
      rw [hboard, hempty hp] at hj
      simp at hj
    · rw [State.removeItem_holds, hentries]
      simp
    · rw [hitems]
      exact Board.Sound.withoutItem (hboard ▸ hsound) loader
  · obtain ⟨hq, _, hlength, hlist, hk⟩ := (State.bounded_iff s).mp hs
    refine (State.bounded_iff _).mpr ⟨?_, ?_, ?_, ?_, (hsteps.trans (u.steps_removeItem loader .silent)).bounded hk⟩
    · rw [State.removeItem_liu, hliu]
      exact ((State.bounded_iff _).mp (hgive.bounded hs)).1
    · rw [State.removeItem_holds, hentries, List.length_append, List.length_singleton]
      omega
    · rw [hitems]
      exact (u.withoutItem_items_length_le loader).trans (hboard ▸ hlength)
    · rw [hremoved, State.withoutItem_frame]
      simpa [hu] using hlist

end Sys2Proof.Machine
end

/-!
PROOFS. The moves of the chair's requests, of its frames and of its timers (chapters 4, 5 and 8).
-/
section

namespace Sys2Proof.Machine

/-! ### The checks of a request (R59 to R66) -/

/-- A request passes when none of its checks fails. -/
theorem firstFailure_eq_none {checks : List (Option ResultCode)} :
    firstFailure checks = none ↔ ∀ c ∈ checks, c = none := by
  simp [firstFailure]

theorem failIf_eq_none {failed : Bool} {code : ResultCode} : failIf failed code = none ↔ failed = false := by
  cases failed <;> simp [failIf]

theorem State.roomCheck_eq_none {s : State} : s.roomCheck = none ↔ s.holds.entries.length < 6 := by
  rw [State.roomCheck, failIf_eq_none, decide_eq_false_iff_not, Config.tableSize, Nat.not_le]

/-- A request that fails a check changes nothing. -/
theorem State.moves_answer {check : Option ResultCode} {s done : State} (h : check = none → s.Moves done) :
    s.Moves (s.answer check done).1 := by
  cases check with
  | none => exact h rfl
  | some code => exact .refl s

theorem State.moves_onEntry {s : State} (loader : Byte) {act : Entry → State → State × Answer}
    (h : ∀ e, s.Moves (act e s).1) : s.Moves (s.onEntry loader act).1 := by
  unfold State.onEntry
  split
  · exact .refl s
  · split
    · exact .refl s
    · exact h _

/-! ### Posture (R52, R53) -/

theorem State.moves_standUp {s : State} (hchair : s.activeAs .chair = true) : s.Moves s.standUp.1 := by
  unfold State.standUp
  dsimp only
  split
  · exact .refl s
  · refine (State.moves_holds hchair { s.holds with posture := .active }
      ⟨.refl _, fun _ => rfl, fun h => by cases h⟩).trans (State.moves_tell _ ?_)
    exact State.inService_of_activeAs hchair

/-- R53: the posture after a STAND_DOWN. -/
def State.postureDown (s : State) : Posture :=
  if s.holds.posture = .active then (if s.holds.entries = [] then .vacant else .standingDown) else s.holds.posture

theorem State.leavePost_frame (s : State) :
    s.leavePost = { s with holds := { s.holds with posture := s.postureDown }, link := s.leavePost.link } := by
  unfold State.leavePost State.postureDown
  split
  · rw [State.tell_frame]
    simp [List.isEmpty_iff]
  · rfl

theorem State.steps_leavePost (s : State) : s.link.Steps s.leavePost.link := by
  unfold State.leavePost
  split
  · exact State.steps_tell _ { s with holds := { s.holds with
      posture := if s.holds.entries.isEmpty then .vacant else .standingDown } }
  · exact .refl _

/-- R92: the Board is emptied, and a gesture of its own is over. -/
theorem State.clearBoard_frame (s : State) :
    s.clearBoard =
      { s with
        board := { items := [], gesture := s.board.gesture.filter (!·.request.ofBoard) }
        discrete := { s.discrete with indicator := false }
        link := s.clearBoard.link } := by
  unfold State.clearBoard
  rw [State.present_frame]
  cases hg : s.board.gesture with
  | none => simp [hg, shown, nextPresented?, firstItem, firstOfLevel]
  | some g =>
    cases hb : g.request.ofBoard
    · simp [hg, hb, shown, nextPresented?, firstItem, firstOfLevel, Option.filter]
    · simp only [hb, if_true]
      rw [State.failGesture_frame]
      simp [shown, nextPresented?, firstItem, firstOfLevel, Option.filter, hb]

theorem State.steps_clearBoard (s : State) : s.link.Steps s.clearBoard.link := by
  unfold State.clearBoard
  refine .trans ?_ (State.steps_present _)
  split
  · split
    · exact State.steps_failGesture _ { s with board := { s.board with items := [] } }
    · exact .refl _
  · exact .refl _

theorem State.endEngineGesture_frame (s : State) :
    s.endEngineGesture =
      { s with
        board := { s.board with gesture := s.board.gesture.filter (·.request.ofBoard) }
        link := s.endEngineGesture.link } := by
  unfold State.endEngineGesture
  cases hg : s.board.gesture with
  | none =>
    dsimp only [Option.filter_none]
    rw [← hg]
  | some g =>
    cases hb : g.request.ofBoard
    · simp only [hb, Bool.false_eq_true, if_false]
      rw [State.failGesture_frame]
      simp [Option.filter, hb]
    · simp [hb, Option.filter, ← hg]

theorem State.steps_endEngineGesture (s : State) : s.link.Steps s.endEngineGesture.link := by
  unfold State.endEngineGesture
  split
  · split
    · exact .refl _
    · exact State.steps_failGesture _ s
  · exact .refl _

/-- R53, R92: what STAND_DOWN leaves of the state. -/
theorem State.standDown_frame (s : State) :
    s.standDown.1 =
      { s with
        holds := { s.holds with posture := s.postureDown }
        board := { items := [], gesture := none }
        discrete := { s.discrete with indicator := false }
        link := s.standDown.1.link } := by
  have hboth : (s.board.gesture.filter (!·.request.ofBoard)).filter (·.request.ofBoard) = none := by
    cases s.board.gesture with
    | none => rfl
    | some g => cases h : g.request.ofBoard <;> simp [Option.filter, h]
  have hframe := s.leavePost.clearBoard.endEngineGesture_frame
  simp only [State.standDown]
  generalize s.leavePost.clearBoard.endEngineGesture.link = k at hframe ⊢
  rw [hframe, State.clearBoard_frame, State.leavePost_frame]
  simp only [hboth]

theorem State.steps_standDown (s : State) : s.link.Steps s.standDown.1.link :=
  (s.steps_leavePost.trans (State.steps_clearBoard _)).trans (State.steps_endEngineGesture _)

theorem State.moves_standDown {s : State} (hchair : s.activeAs .chair = true) : s.Moves s.standDown.1 := by
  rw [State.standDown_frame]
  refine .chair hchair (fun hs => ?_) (fun hs => ?_) s.steps_standDown
  · obtain ⟨hnodup, _, _, hstanding, _⟩ := (State.tablesSound_iff s).mp hs
    refine (State.tablesSound_iff _).mpr ⟨hnodup, by simp, fun _ => rfl, fun hp => ?_, by simp, rfl, by simp⟩
    simp only [State.postureDown] at hp
    repeat' split at hp
    · cases hp
    · assumption
    · exact hstanding hp
  · obtain ⟨hq, hentries, _, hlist, hk⟩ := (State.bounded_iff s).mp hs
    exact (State.bounded_iff _).mpr ⟨hq, hentries, by simp, hlist, s.steps_standDown.bounded hk⟩

/-! ### Claims and modes (R60, R61, R63, R67) -/

theorem State.moves_addClaimed {s : State} (hchair : s.activeAs .chair = true) (loader : Nat) (k : OutKind) (m : Mode)
    (hroom : s.roomCheck = none) (hheld : s.entry? loader = none) : s.Moves (s.addClaimed loader k m) :=
  State.moves_enter hchair loader k m _ (State.roomCheck_eq_none.mp hroom) (.inl hheld)

theorem State.moves_claim {s : State} (hchair : s.activeAs .chair = true) (loader mode : Byte) :
    s.Moves (s.claim loader mode).1 := by
  unfold State.claim
  split
  · next m _ _ =>
    split
    · next hheld =>
      refine State.moves_answer fun hcheck => ?_
      have hroom : s.roomCheck = none := firstFailure_eq_none.mp hcheck _ (by simp)
      cases m with
      | supervise => exact State.moves_addClaimed hchair _ _ _ hroom hheld
      | drive => exact State.moves_armGesture hchair .claim _ (by simp [GestureRequest.ofBoard])
    · split
      · refine State.moves_answer fun _ => ?_
        cases m with
        | supervise => exact State.moves_claimAgain hchair _ _ _ _
        | drive => exact State.moves_armGesture hchair .reclaim _ (by simp [GestureRequest.ofBoard])
      · exact .refl s
  · exact .refl s

theorem State.moves_setMode {s : State} (hchair : s.activeAs .chair = true) (loader mode : Byte) :
    s.Moves (s.setMode loader mode).1 := by
  unfold State.setMode
  split
  · next m _ _ =>
    split
    · exact .refl s
    · unfold State.setModeOf
      split
      · exact .refl s
      · split
        · exact .refl s
        · refine State.moves_answer fun _ => ?_
          cases m with
          | supervise => exact State.moves_claimAgain hchair _ _ _ _
          | drive => exact State.moves_armGesture hchair .setMode _ (by simp [GestureRequest.ofBoard])
  · exact .refl s

theorem State.moves_seize {s : State} (hchair : s.activeAs .chair = true) (loader mode : Byte) :
    s.Moves (s.seize loader mode).1 := by
  unfold State.seize
  split
  · refine State.moves_answer fun hcheck => ?_
    have hpass := firstFailure_eq_none.mp hcheck
    have hroom : s.roomCheck = none := hpass _ (by simp)
    have hheld : failIf (s.isHeld loader.toNat) .alreadyHeld = none := hpass _ (by simp)
    refine State.moves_addClaimed hchair _ _ _ hroom ?_
    simpa [failIf_eq_none, State.isHeld] using hheld
  · exact .refl s

/-! ### Offers, releases, pauses, readings (R64 to R66, R68, R69) -/

theorem State.moves_makeOffer {s : State} (hchair : s.activeAs .chair = true) (e : Entry) (target : Byte) (m : Mode)
    (expiry : Half) : s.Moves (s.makeOffer e target m expiry) := by
  have hgive := State.moves_give (offerFrame e target m expiry s.holds.nextRef) s
  have hnext := hgive.trans (State.moves_holds (hgive.activeAs hchair)
    { (s.give (offerFrame e target m expiry s.holds.nextRef)).holds with
      nextRef := (s.give (offerFrame e target m expiry s.holds.nextRef)).holds.nextRef + 1 } (.of_loaders rfl rfl))
  exact hnext.trans (State.moves_mapEntry (hnext.activeAs hchair) _ (by simp))

theorem State.moves_offer {s : State} (hchair : s.activeAs .chair = true) (loader target mode : Byte) (expiry : Half) :
    s.Moves (s.offer loader target mode expiry).1 := by
  unfold State.offer
  split
  · split
    · exact .refl s
    · split
      · exact State.moves_makeOffer hchair _ _ _ _
      · exact .refl s
  · exact .refl s

theorem State.moves_withdraw {s : State} (hchair : s.activeAs .chair = true) (loader : Byte) :
    s.Moves (s.withdraw loader).1 := by
  refine State.moves_onEntry loader fun e => ?_
  unfold State.withdrawOf
  have hgive : s.Moves (s.sendWithdraw e) := State.moves_give _ s
  cases e.phase with
  | offering o => exact hgive.trans (State.moves_endOffer (hgive.activeAs hchair) _ o)
  | acquiring | held | releasing | suspended => exact .refl s

theorem State.moves_release {s : State} (hchair : s.activeAs .chair = true) (loader : Byte) :
    s.Moves (s.release loader).1 := by
  refine State.moves_onEntry loader fun e => ?_
  unfold State.releaseOf
  cases e.phase with
  | held | offering | suspended => exact State.moves_sendRelease hchair _ _
  | acquiring | releasing => exact .refl s

theorem State.moves_setContinue {s : State} (hchair : s.activeAs .chair = true) (value : Bool) (e : Entry) :
    s.Moves (s.setContinue value e).1 := by
  unfold State.setContinue
  cases e.mode with
  | supervise =>
    have hset : s.Moves (s.mapEntry e.loader fun x => { x with continueOk := value }) :=
      State.moves_mapEntry hchair _ (fun _ => rfl)
    exact hset.trans (State.moves_giveSupervise (hset.activeAs hchair) _)
  | drive => exact .refl s

theorem State.moves_readHolds {s : State} (hchair : s.activeAs .chair = true) : s.Moves s.readHolds.1 :=
  State.moves_holds hchair _ (.of_loaders (by simp) rfl)

/-! ### The answers to the presented item (R93 to R96) -/

theorem State.presented?_some {s : State} {i : Item} (h : s.presented? = some i) :
    i ∈ s.board.items ∧ i.presented = true :=
  ⟨List.mem_of_find?_eq_some h, by simpa using List.find?_some h⟩

theorem State.presentedFor_ok {s : State} {loader : Byte} {i : Item} (h : s.presentedFor loader = .ok i) :
    s.presented? = some i ∧ i.loader = loader.toNat := by
  unfold State.presentedFor at h
  split at h
  · cases h
  · split at h
    · next hitem hloader =>
      cases h
      exact ⟨hitem, hloader⟩
    · cases h

theorem State.moves_takeItem {s : State} (hchair : s.activeAs .chair = true) {i : Item} (hroom : s.roomCheck = none)
    (hi : i ∈ s.board.items) : s.Moves (s.takeItem i) :=
  State.moves_enter hchair _ _ _ _ (State.roomCheck_eq_none.mp hroom) (.inr ⟨i, hi, rfl⟩)

theorem State.moves_acceptItem {s : State} (hchair : s.activeAs .chair = true) (loader : Byte) :
    s.Moves (s.acceptItem loader).1 := by
  unfold State.acceptItem
  split
  · exact .refl s
  · exact .refl s
  · next i _ hfor =>
    obtain ⟨hitem, hloader⟩ := State.presentedFor_ok hfor
    obtain ⟨hmem, hpresented⟩ := State.presented?_some hitem
    refine State.moves_answer fun hcheck => ?_
    have hroom : s.roomCheck = none := firstFailure_eq_none.mp hcheck _ (by simp)
    cases i.mode with
    | supervise => exact State.moves_takeItem hchair hroom hmem
    | drive => exact State.moves_armGesture hchair .acceptItem _ fun _ => ⟨i, hmem, hpresented, rfl⟩

theorem State.moves_declineItem {s : State} (hchair : s.activeAs .chair = true) (loader : Byte) :
    s.Moves (s.declineItem loader).1 := by
  unfold State.declineItem
  split
  · exact .refl s
  · split
    · exact .refl s
    · next i _ =>
      cases i.kind with
      | namedOffer n =>
        have hgive : s.Moves (s.declineTo n i) := State.moves_give _ s
        exact hgive.trans (State.moves_removeItem (hgive.activeAs hchair) _ _)
      | assist | poolOffer => exact .refl s

theorem State.moves_dismissItem {s : State} (hchair : s.activeAs .chair = true) (loader : Byte) :
    s.Moves (s.dismissItem loader).1 := by
  unfold State.dismissItem
  split
  · exact .refl s
  · split
    · exact .refl s
    · next i _ =>
      cases i.kind with
      | namedOffer n => exact .refl s
      | assist | poolOffer => exact State.moves_removeItem hchair _ _

/-! ### The Relay's chair side (R137 to R142) -/

/-- A change of the latest axes or of the drive timer. -/
theorem State.moves_chairRelay {s : State} (hchair : s.activeAs .chair = true) (r : Relay)
    (hr : r.lastRecord = s.relay.lastRecord ∧ r.taken = s.relay.taken ∧ r.view = s.relay.view) :
    s.Moves { s with relay := r } :=
  .chair hchair id (by intro hs; simpa [State.bounded_iff] using hs) (.refl _) (hrelay := hr)

theorem State.moves_driveInterval {s : State} (hchair : s.activeAs .chair = true) (due : Nat) :
    s.Moves (s.driveInterval due) := by
  have hreach := s.moves_reach due
  have htimer := hreach.trans (State.moves_chairRelay (hreach.activeAs hchair)
    { (s.reach due).relay with driveTimer := some ((s.reach due).now + (s.reach due).periods 1) } ⟨rfl, rfl, rfl⟩)
  unfold State.driveInterval
  dsimp only
  split
  · exact htimer
  · split
    · exact htimer.trans (State.moves_give _ _)
    · exact htimer.trans (State.moves_give _ _)
    · exact htimer.trans (State.moves_give _ _)
    · exact htimer
    · exact htimer

/-! ### The frames of a GRANT, a REFUSE, a DECLINE, an ASSIST_CALL and a STATUS (R70 to R80) -/

theorem State.moves_grantAtEngine {s : State} (hchair : s.activeAs .chair = true) (e : Entry) (f : RxFrame) :
    s.Moves (s.grantAtEngine e f) := by
  have hcleared : s.Moves (s.mapEntry e.loader fun x => { x with assist := false }) :=
    State.moves_mapEntry hchair _ (fun _ => rfl)
  unfold State.grantAtEngine
  split
  · unfold State.grantMine
    split
    · exact State.moves_acquired hchair _ _ _ _ _
    · dsimp only
      split
      · exact hcleared
      · exact hcleared.trans (State.moves_releaseOver (hcleared.activeAs hchair) _ _ _)
    all_goals
      split
      · exact .refl s
      · exact State.moves_acquired hchair _ _ _ _ _
  · unfold State.grantOther
    dsimp only
    split
    · split <;> exact State.moves_leave hchair _ _
    · split <;> exact State.moves_leave hchair _ _
    · split <;> exact State.moves_leave hchair _ _
    · split
      · exact .refl s
      · exact State.moves_leave hchair _ _
    · exact State.moves_leave hchair _ _

theorem State.moves_tellChair {s : State} (hchair : s.activeAs .chair = true) (n : Notice) : s.Moves (s.tell n) :=
  State.moves_tell n (State.inService_of_activeAs hchair)

theorem State.moves_endAcquisition {s : State} (hchair : s.activeAs .chair = true) (e : Entry) (g : Origin)
    (f : RxFrame) : s.Moves (s.endAcquisition e g f) := by
  unfold State.endAcquisition
  cases g with
  | new => exact State.moves_leave hchair _ _
  | reclaim => exact State.moves_leave hchair _ _
  | modeChange back =>
    dsimp only
    split
    · exact State.moves_leave hchair _ _
    · have hback : s.Moves (s.mapEntry e.loader fun x => (x.takeMode back).enter (.held none)) :=
        State.moves_mapEntry hchair _ (by simp)
      have htold := hback.trans (State.moves_tellChair (hback.activeAs hchair) (refusedNotice e f))
      exact htold.trans (State.moves_giveSupervise (htold.activeAs hchair) _)

theorem State.moves_endRelease {s : State} (hchair : s.activeAs .chair = true) (e : Entry) (f : RxFrame) :
    s.Moves (s.endRelease e f) := by
  unfold State.endRelease
  dsimp only
  split
  · split <;> exact State.moves_leave hchair _ _
  · split
    · exact State.moves_sendRelease hchair _ _
    · split <;> exact State.moves_leave hchair _ _

theorem State.moves_refuseAtEngine {s : State} (hchair : s.activeAs .chair = true) (e : Entry) (f : RxFrame) :
    s.Moves (s.refuseAtEngine e f) := by
  unfold State.refuseAtEngine
  split
  · exact State.moves_tellChair hchair _
  · split
    · split
      · exact .refl s
      · split
        · exact State.moves_acquired hchair _ _ _ _ _
        · exact State.moves_endAcquisition hchair _ _ _
    · split
      · exact .refl s
      · exact State.moves_endRelease hchair _ _
    · split
      · exact .refl s
      · have hended := State.moves_endOffer hchair e.loader (by assumption)
        exact hended.trans (State.moves_tellChair (hended.activeAs hchair) _)
    · exact .refl s
    · exact .refl s

theorem State.moves_declineAtEngine {s : State} (hchair : s.activeAs .chair = true) (e : Entry) (f : RxFrame) :
    s.Moves (s.declineAtEngine e f) := by
  unfold State.declineAtEngine
  cases e.phase with
  | offering o =>
    dsimp only
    split
    · have hsent : s.Moves (s.sendWithdraw e) := State.moves_give _ s
      have hended := hsent.trans (State.moves_endOffer (hsent.activeAs hchair) e.loader o)
      exact hended.trans (State.moves_tellChair (hended.activeAs hchair) _)
    · exact .refl s
  | acquiring | held | releasing | suspended => exact .refl s

theorem State.moves_assistAtEngine {s : State} (hchair : s.activeAs .chair = true) (e : Entry) (f : RxFrame) :
    s.Moves (s.assistAtEngine e f) := by
  have hset : s.Moves (s.mapEntry e.loader fun x => { x with assist := true }) :=
    State.moves_mapEntry hchair _ (fun _ => rfl)
  unfold State.assistAtEngine
  dsimp only
  split
  · exact hset
  · exact hset.trans (State.moves_tellChair (hset.activeAs hchair) _)

theorem State.moves_statusAtMonitor {s : State} (hchair : s.activeAs .chair = true) (e : Entry) (f : RxFrame) :
    s.Moves (s.statusAtMonitor e f) := by
  unfold State.statusAtMonitor
  dsimp only
  split
  · exact (State.moves_mapEntry hchair _ (by simp)).trans
      (State.moves_post _ (State.inService_of_activeAs hchair))
  · exact State.moves_mapEntry hchair _ (by simp)

theorem State.moves_suspend {s : State} (hchair : s.activeAs .chair = true) (loader : Nat) (m : Mode) (e : Epoch) :
    s.Moves (s.suspend loader m e) := by
  have hset : s.Moves (s.mapEntry loader fun x => Entry.enter .suspended { x.takeMode m with epoch := e }) :=
    State.moves_mapEntry hchair _ (by simp)
  unfold State.suspend
  dsimp only
  split
  · have hclaimed := hset.trans (State.moves_claimAgain (hset.activeAs hchair) loader .reclaim m e)
    exact hclaimed.trans (State.moves_tellChair (hclaimed.activeAs hchair) _)
  · exact hset.trans (State.moves_tellChair (hset.activeAs hchair) _)

theorem State.moves_statusOrphan {s : State} (hchair : s.activeAs .chair = true) (x : Entry) (m : Mode) (e : Epoch) :
    s.Moves (s.statusOrphan x m e) := by
  unfold State.statusOrphan
  split
  · exact State.moves_suspend hchair _ _ _
  · exact State.moves_suspend hchair _ _ _
  · exact State.moves_suspend hchair _ _ _
  · exact State.moves_mapEntry hchair _ (fun _ => rfl)
  · exact .refl s
  · exact .refl s
  · split
    · exact .refl s
    · exact State.moves_releaseOver hchair _ _ _

theorem State.moves_statusCompared {s : State} (hchair : s.activeAs .chair = true) (x : Entry) (state : Byte) (m : Mode)
    (holder : Nat) (e : Epoch) : s.Moves (s.statusCompared x state m holder e) := by
  unfold State.statusCompared
  split
  · split
    · exact State.moves_acquired hchair _ _ _ _ _
    · exact .refl s
  · split
    · exact State.moves_leave hchair _ _
    · split
      · split
        · exact .refl s
        · exact State.moves_releaseOver hchair _ _ _
      · exact State.moves_leave hchair _ _
  all_goals
    split
    · exact .refl s
    · exact State.moves_leave hchair _ _

theorem State.moves_statusAtEngine {s : State} (hchair : s.activeAs .chair = true) (x : Entry) (f : RxFrame) :
    s.Moves (s.statusAtEngine x f) := by
  have hstored : s.Moves (s.storeReport x.loader f) := State.moves_mapEntry hchair _ (fun _ => rfl)
  unfold State.statusAtEngine
  dsimp only
  split
  · exact hstored.trans (State.moves_statusOrphan (hstored.activeAs hchair) _ _ _)
  · exact hstored.trans (State.moves_statusCompared (hstored.activeAs hchair) _ _ _ _ _)

theorem State.moves_disown {s : State} (hchair : s.activeAs .chair = true) (f : RxFrame) : s.Moves (s.disown f) :=
  (State.moves_give _ s).trans (State.moves_tellChair ((State.moves_give _ s).activeAs hchair) _)

/-! ### Boarding (R85 to R88) -/

theorem State.moves_autoDecline {s : State} (hchair : s.activeAs .chair = true) (f : RxFrame) (r : DeclineReason) :
    s.Moves (s.autoDecline f r) :=
  (State.moves_give _ s).trans
    (State.moves_post _ (State.inService_of_activeAs ((State.moves_give _ s).activeAs hchair)))

theorem displaced?_mem {level : Nat} {items : List Item} {gone : Item} (h : displaced? level items = some gone) :
    gone ∈ items := by
  unfold displaced? at h
  split at h
  · exact List.mem_of_mem_filter (List.mem_of_find?_eq_some h)
  · cases h

theorem State.moves_boardItem {s : State} (hchair : s.activeAs .chair = true) (f : RxFrame) {item : Item}
    (hactive : s.holds.posture = .active) (hheld : s.entry? item.loader = none) (hp : item.presented = false) :
    s.Moves (s.boardItem f item) := by
  unfold State.boardItem
  cases hitem : s.item? item.loader with
  | some old => exact State.moves_replaceItem hchair hitem
  | none =>
    dsimp only
    split
    · next hroom => exact State.moves_joinBoard hchair hactive hheld hitem hroom hp
    · split
      · next gone hgone =>
        exact State.moves_displace hchair (displaced?_mem hgone) hactive hheld hitem hp _
      · split
        · exact State.moves_autoDecline hchair _ _
        · exact .refl s
        · exact .refl s

end Sys2Proof.Machine
end

/-!
PROOFS. The moves of the chair's deliveries, of its timers, of the completion of its gesture, and of its discrete lines
(chapters 2, 4, 5, 8 and 9).
-/
section

namespace Sys2Proof.Machine

/-! ### Delivery in chair role (R11, Table 2-7) -/

theorem State.moves_boardOffer {s : State} (hchair : s.activeAs .chair = true) (f : RxFrame) :
    s.Moves (s.boardOffer f) := by
  unfold State.boardOffer
  split
  · exact .refl s
  · dsimp only
    split
    · exact .refl s
    · split
      · split
        · exact State.moves_autoDecline hchair _ _
        · exact .refl s
      · next hposture =>
        split
        · exact .refl s
        · next hheld =>
          split
          · exact (State.moves_autoDecline hchair _ _).trans
              (State.moves_removeItem ((State.moves_autoDecline hchair _ _).activeAs hchair) _ _)
          · refine State.moves_boardItem hchair f (by simpa using hposture) ?_ rfl
            simpa [State.isHeld] using hheld

theorem State.moves_boardAssist {s : State} (hchair : s.activeAs .chair = true) (f : RxFrame)
    (hheld : s.entry? f.loader = none) : s.Moves (s.boardAssist f) := by
  unfold State.boardAssist
  split
  · exact .refl s
  · next h =>
    push Not at h
    exact State.moves_boardItem hchair f h.2.2 hheld rfl

theorem State.moves_withdrawAtBoard {s : State} (hchair : s.activeAs .chair = true) (f : RxFrame) :
    s.Moves (s.withdrawAtBoard f) := by
  unfold State.withdrawAtBoard
  split
  · exact .refl s
  · split
    · exact State.moves_removeItem hchair _ _
    · exact .refl s

theorem State.moves_chairGrant {s : State} (hchair : s.activeAs .chair = true) (f : RxFrame) :
    s.Moves (s.chairGrant f) := by
  unfold State.chairGrant
  split
  · exact State.moves_grantAtEngine hchair _ _
  · split
    · exact State.moves_removeItem hchair _ _
    · split
      · exact State.moves_disown hchair _
      · exact .refl s

theorem State.moves_chairStatus {s : State} (hchair : s.activeAs .chair = true) (f : RxFrame) :
    s.Moves (s.chairStatus f) := by
  unfold State.chairStatus
  split
  · exact (State.moves_statusAtMonitor hchair _ _).trans
      (State.moves_statusAtEngine ((State.moves_statusAtMonitor hchair _ _).activeAs hchair) _ _)
  · split
    · exact State.moves_disown hchair _
    · exact .refl s

theorem State.moves_chairAssist {s : State} (hchair : s.activeAs .chair = true) (f : RxFrame) :
    s.Moves (s.chairAssist f) := by
  unfold State.chairAssist
  split
  · exact State.moves_assistAtEngine hchair _ _
  · next hheld =>
    split
    · exact State.moves_boardAssist hchair f hheld
    · exact .refl s

theorem State.moves_chairAnswer {s : State} (f : RxFrame) {act : Entry → RxFrame → State → State}
    (hact : ∀ e, s.Moves (act e f s)) : s.Moves (s.chairAnswer act f) := by
  unfold State.chairAnswer
  split
  · split
    · exact hact _
    · exact .refl s
  · exact .refl s

theorem State.moves_deliverChair {s : State} (hchair : s.activeAs .chair = true) (f : RxFrame) :
    s.Moves (s.deliverChair f) := by
  unfold State.deliverChair
  cases f.kind with
  | offer =>
    dsimp only
    split
    · exact State.moves_boardOffer hchair f
    · exact .refl s
  | withdraw => exact State.moves_withdrawAtBoard hchair f
  | assistCall => exact State.moves_chairAssist hchair f
  | grant => exact State.moves_chairGrant hchair f
  | status => exact State.moves_chairStatus hchair f
  | refuse => exact State.moves_chairAnswer f fun e => State.moves_refuseAtEngine hchair e f
  | decline => exact State.moves_chairAnswer f fun e => State.moves_declineAtEngine hchair e f
  | drive | supervise | claim | seize | accept | release | stop | clear => exact .refl s

/-! ### The timers of an entry (R58, R76, R116) -/

theorem State.moves_answerDeadline {s : State} (hchair : s.activeAs .chair = true) (e : Entry) (out : Outstanding) :
    s.Moves (s.answerDeadline e out) := by
  have hreach := s.moves_reach out.deadline
  unfold State.answerDeadline
  dsimp only
  split
  · have hsent := hreach.trans (State.moves_give (Outstanding.frame e.loader
      { out with attempts := out.attempts + 1, deadline := (s.reach out.deadline).now + (s.reach out.deadline).periods 4 })
      (s.reach out.deadline))
    refine hsent.trans (State.moves_mapEntry (hsent.activeAs hchair) _ fun x => ?_)
    split <;> rfl
  · exact hreach.trans (State.moves_leave (hreach.activeAs hchair) _ _)

theorem State.moves_offerDeadline {s : State} (hchair : s.activeAs .chair = true) (e : Entry) (o : ChairOffer)
    (due : Nat) : s.Moves (s.offerDeadline e o due) := by
  have hreach := s.moves_reach due
  have hended := hreach.trans (State.moves_endOffer (hreach.activeAs hchair) e.loader o)
  exact hended.trans (State.moves_tellChair (hended.activeAs hchair) _)

theorem State.moves_absenceDeadline {s : State} (hchair : s.activeAs .chair = true) (e : Entry) (due : Nat) :
    s.Moves (s.absenceDeadline e due) := by
  have hreach := s.moves_reach due
  have hmarked := hreach.trans (State.moves_mapEntry (hreach.activeAs hchair) e.loader
    (f := fun x => { x with absent := true, absence := none }) fun _ => rfl)
  exact hmarked.trans (State.moves_post _ (State.inService_of_activeAs (hmarked.activeAs hchair)))

/-! ### The completion of a gesture (R62, R95, R99) -/

theorem State.moves_abandon {s : State} (hchair : s.activeAs .chair = true) (loader : Nat) (c : ResultCode) :
    s.Moves (s.abandon loader c) :=
  State.moves_tellChair hchair _

theorem State.moves_completeNew {s : State} (hchair : s.activeAs .chair = true) (loader : Nat) :
    s.Moves (s.completeNew loader) := by
  unfold State.completeNew
  split
  · exact State.moves_abandon hchair _ _
  · next hcheck =>
    have hpass := firstFailure_eq_none.mp hcheck
    have hroom : s.roomCheck = none := hpass _ (by simp)
    have hheld : failIf (s.isHeld loader) .alreadyHeld = none := hpass _ (by simp)
    exact State.moves_addClaimed hchair _ _ _ hroom (by simpa [failIf_eq_none, State.isHeld] using hheld)

theorem State.moves_completeReclaim {s : State} (hchair : s.activeAs .chair = true) (loader : Nat) :
    s.Moves (s.completeReclaim loader) := by
  unfold State.completeReclaim
  split
  · exact State.moves_abandon hchair _ _
  · split
    · exact State.moves_abandon hchair _ _
    · exact State.moves_claimAgain hchair _ _ _ _

theorem State.moves_completeMode {s : State} (hchair : s.activeAs .chair = true) (loader : Nat) :
    s.Moves (s.completeMode loader) := by
  unfold State.completeMode
  split
  · exact State.moves_abandon hchair _ _
  · split
    · exact State.moves_abandon hchair _ _
    · exact State.moves_claimAgain hchair _ _ _ _

theorem State.moves_completeAcceptance {s : State} (hchair : s.activeAs .chair = true) (loader : Nat) :
    s.Moves (s.completeAcceptance loader) := by
  have hin := State.inService_of_activeAs hchair
  unfold State.completeAcceptance
  split
  · exact State.moves_post _ hin
  · next i hitem =>
    split
    · exact State.moves_post _ hin
    · next hcheck =>
      have hroom : s.roomCheck = none := firstFailure_eq_none.mp hcheck _ (by simp)
      exact State.moves_takeItem hchair hroom (State.presented?_some hitem).1

theorem State.moves_completeGesture {s : State} (hchair : s.activeAs .chair = true) (g : Gesture) :
    s.Moves (s.completeGesture g) := by
  have hdone := (State.moves_disarm hchair).trans
    (State.moves_post (.gestureDone g.loader g.request) (State.inService_of_activeAs hchair))
  unfold State.completeGesture
  dsimp only
  split
  · exact hdone.trans (State.moves_completeAcceptance (hdone.activeAs hchair) _)
  · exact hdone.trans (State.moves_completeNew (hdone.activeAs hchair) _)
  · exact hdone.trans (State.moves_completeReclaim (hdone.activeAs hchair) _)
  · exact hdone.trans (State.moves_completeMode (hdone.activeAs hchair) _)

theorem State.moves_confirmPressed {s : State} (hchair : s.activeAs .chair = true) : s.Moves s.confirmPressed := by
  unfold State.confirmPressed
  split
  · exact .refl s
  · next g _ =>
    have hfail := State.moves_failGesture hchair
    split
    · exact hfail _
    · split
      · exact hfail _
      · split
        · exact hfail _
        · split
          · exact hfail _
          · exact State.moves_completeGesture hchair g

/-! ### The stop list and the filters at a chair (R154, R167 to R171) -/

/-- In an active chair, a change of the Discrete Line Unit that leaves the latch and MOTION_ENABLE. -/
theorem State.moves_chairDiscrete {s : State} (hchair : s.activeAs .chair = true) (d : Discrete)
    (hstops : s.discrete.stopList.length ≤ 32 → d.stopList.length ≤ 32)
    (hlatch : d.latch = s.discrete.latch := by simp) (hmotion : d.motionEnable = s.discrete.motionEnable := by simp) :
    s.Moves { s with discrete := d } := by
  refine .chair hchair id (fun hs => ?_) (.refl _) (hlatch := hlatch) (hmotion := hmotion)
  obtain ⟨hq, hentries, hitems, hlist, hk⟩ := (State.bounded_iff s).mp hs
  exact (State.bounded_iff _).mpr ⟨hq, hentries, hitems, hstops hlist, hk⟩

@[simp] theorem insertStop_length (e : StopEntry) (l : List StopEntry) : (insertStop e l).length = l.length + 1 := by
  induction l with
  | nil => rfl
  | cons g l ih => rw [insertStop]; split <;> simp [ih]

/-- In an active part of either role, a change of the Discrete Line Unit that leaves the latch, STOPCHAIN and
MOTION_ENABLE. -/
theorem State.moves_discrete {s : State} (hactive : s.active = true) (d : Discrete)
    (hstops : d.stopList.length ≤ s.discrete.stopList.length) (hlatch : d.latch = s.discrete.latch := by rfl)
    (hmotion : d.motionEnable = s.discrete.motionEnable := by rfl)
    (hchain : d.stopchain.active = s.discrete.stopchain.active := by rfl) : s.Moves { s with discrete := d } where
  pending := rfl
  startup := rfl
  now := Nat.le_refl _
  attn := id
  bounded hs := by
    obtain ⟨hq, hentries, hitems, hlist, hk⟩ := (State.bounded_iff s).mp hs
    exact (State.bounded_iff _).mpr ⟨hq, hentries, hitems, hstops.trans hlist, hk⟩
  tables := id
  roles := by
    rintro ⟨-, hchair, hloader, hhold, hload⟩
    have hactive' : State.active { s with discrete := d } = true := hactive
    refine ⟨by simp [hactive'], fun hrole => ?_, fun hrole => ?_, hhold, hload⟩
    · rw [hlatch, hmotion]; exact hchair hrole
    · obtain ⟨hholds, hboard, haxes, htimer, hlist⟩ := hloader hrole
      rw [hlist] at hstops
      exact ⟨hholds, hboard, haxes, htimer, List.length_eq_zero_iff.mp (Nat.le_zero.mp hstops)⟩
  motion hs := hs.congr rfl rfl rfl rfl rfl rfl hlatch hchain hmotion
  epoch := rfl
  cap := Nat.le_refl _
  latch c hc := by rw [hlatch]; exact hc

theorem State.moves_giveStop (s : State) : s.Moves s.giveStop := by
  unfold State.giveStop
  split
  · exact .refl s
  · next h =>
    have hactive : s.active = true := by
      cases ha : s.active
      · exact absurd (.inl ha) h
      · rfl
    split
    · exact .refl s
    · next e rest hlist =>
      split
      · have hgive := State.moves_give (s.stopFrame e) s
        refine hgive.trans (State.moves_discrete (hgive.active hactive) _ ?_ (by rfl) (by rfl) (by rfl))
        simp [hlist]
      · exact .refl s

theorem State.moves_joinStop {s : State} (hchair : s.activeAs .chair = true) (e : StopEntry) :
    s.Moves (s.joinStop e) := by
  unfold State.joinStop
  split
  · next hroom =>
    have hjoined := State.moves_chairDiscrete hchair
      { s.discrete with stopList := insertStop e s.discrete.stopList } (fun _ => by rw [insertStop_length]; exact hroom)
    exact hjoined.trans (State.moves_giveStop _)
  · exact State.moves_raise _ (State.inService_of_activeAs hchair)

theorem State.moves_joinStops {s : State} (hchair : s.activeAs .chair = true) (l : List StopEntry) :
    s.Moves (l.foldl (fun t e => t.joinStop e) s) := by
  induction l generalizing s with
  | nil => exact .refl s
  | cons e l ih =>
    have hjoin := State.moves_joinStop hchair e
    exact hjoin.trans (ih (hjoin.activeAs hchair))

theorem State.moves_chainStop {s : State} (hchair : s.activeAs .chair = true) : s.Moves s.chainStop := by
  have hfiltered := State.moves_chairDiscrete hchair
    { s.discrete with stopList := s.discrete.stopList.filter (·.reason ≠ stopChainReason) }
    (fun hs => (List.length_filter_le _ _).trans hs)
  exact hfiltered.trans (State.moves_joinStops (hfiltered.activeAs hchair) _)

theorem State.moves_seatStop {s : State} (hchair : s.activeAs .chair = true) : s.Moves s.seatStop := by
  unfold State.seatStop
  split
  · exact .refl s
  · split
    · exact State.moves_joinStop hchair _
    · exact State.moves_joinStop hchair _
    all_goals exact .refl s

theorem State.moves_chairEdge {s : State} (hchair : s.activeAs .chair = true) (i : Input) (active : Bool) :
    s.Moves (s.chairEdge i active) := by
  have hraised := State.moves_raise .chainOpen (State.inService_of_activeAs hchair)
  unfold State.chairEdge
  split
  · exact hraised.trans (State.moves_chainStop (hraised.activeAs hchair))
  · exact State.moves_seatStop hchair
  · exact State.moves_confirmPressed hchair
  all_goals exact .refl s

theorem State.moves_inputNotice {s : State} (hin : s.inService = true) (i : Input) (active : Bool) :
    s.Moves (s.inputNotice i active) := by
  unfold State.inputNotice
  split
  · exact State.moves_post _ hin
  · exact .refl s

/-- R156: the edges of a chair. -/
theorem State.moves_deliverEdge_chair {s : State} (hchair : s.activeAs .chair = true) (i : Input) (active : Bool) :
    s.Moves (s.deliverEdge i active) := by
  have hnotice := State.moves_inputNotice (State.inService_of_activeAs hchair) i active
  unfold State.deliverEdge
  simp only [(State.activeAs_iff.mp hchair).2]
  exact hnotice.trans (State.moves_chairEdge (hnotice.activeAs hchair) i active)

/-- R154: replacing a filter leaves the rest of the Discrete Line Unit. -/
@[simp] theorem Discrete.setFilter_latch (i : Input) (f : InputFilter) (d : Discrete) :
    (d.setFilter i f).latch = d.latch := by cases i <;> rfl

@[simp] theorem Discrete.setFilter_motionEnable (i : Input) (f : InputFilter) (d : Discrete) :
    (d.setFilter i f).motionEnable = d.motionEnable := by cases i <;> rfl

@[simp] theorem Discrete.setFilter_stopList (i : Input) (f : InputFilter) (d : Discrete) :
    (d.setFilter i f).stopList = d.stopList := by cases i <;> rfl

theorem State.moves_sampleInput_chair {s : State} (hchair : s.activeAs .chair = true) (i : Input) (level : Bool) :
    s.Moves (s.sampleInput i level) := by
  unfold State.sampleInput
  split
  · exact State.moves_chairDiscrete hchair _ (by simp)
  · exact .refl s

theorem State.moves_deliverSampled_chair {s : State} (hchair : s.activeAs .chair = true) (before : Discrete)
    (i : Input) : s.Moves (s.deliverSampled before i) := by
  unfold State.deliverSampled
  dsimp only
  split
  · exact State.moves_deliverEdge_chair hchair _ _
  · exact .refl s

theorem State.moves_takeSample_chair {s : State} (hchair : s.activeAs .chair = true) (a b c d : Bool) :
    s.Moves (s.takeSample a b c d) := by
  unfold State.takeSample
  have h1 := State.moves_sampleInput_chair hchair .stopchain a
  have h2 := h1.trans (State.moves_sampleInput_chair (h1.activeAs hchair) .seat b)
  have h3 := h2.trans (State.moves_sampleInput_chair (h2.activeAs hchair) .deadman c)
  have h4 := h3.trans (State.moves_sampleInput_chair (h3.activeAs hchair) .confirm d)
  have h5 := h4.trans (State.moves_deliverSampled_chair (h4.activeAs hchair) s.discrete .stopchain)
  have h6 := h5.trans (State.moves_deliverSampled_chair (h5.activeAs hchair) s.discrete .seat)
  have h7 := h6.trans (State.moves_deliverSampled_chair (h6.activeAs hchair) s.discrete .deadman)
  exact h7.trans (State.moves_deliverSampled_chair (h7.activeAs hchair) s.discrete .confirm)

theorem State.moves_sendClear {s : State} (hchair : s.activeAs .chair = true) (e : Entry) : s.Moves (s.sendClear e) :=
  (State.moves_give _ s).trans
    (State.moves_chairDiscrete ((State.moves_give _ s).activeAs hchair) _ (by simp))

theorem State.moves_clear {s : State} (hchair : s.activeAs .chair = true) (loader : Byte) :
    s.Moves (s.clear loader).1 :=
  State.moves_onEntry loader fun e => State.moves_answer fun _ => State.moves_sendClear hchair e

end Sys2Proof.Machine
end

/-!
PROOFS. The moves aboard a loader: the cap of an evaluation against its bound (R132, R135), the changes of the record
that are not grants, the stop latch, the holder frames, and the machine controller's requests; and what a grant, the
clearing of the latch and an envelope interval keep.
-/
section

namespace Sys2Proof.Machine

/-! ### The cap of an evaluation (R130, R132, R135) -/

/-- R110: of a window of eight slots at most eight are good. -/
theorem Monitor.linkFigure_le {m : Monitor} (h : m.window.length = 8) : m.linkFigure ≤ 8 :=
  h ▸ List.count_le_length

/-- R135: with the Monitor's view that of the record, an evaluation leaves the cap within the bound of the hold. -/
theorem State.capOf_le_capBound (e : Evaluation) {s : State} (hview : s.monitor.view = s.record.view)
    (hwindow : s.monitor.window.length = 8) : s.capOf e ≤ s.capBound := by
  have hdrive : s.monitor.view.mode = some .drive → s.capOf e ≤ s.settings.vmax := fun hmode =>
    (State.capOf_le_linkTerm e hmode).trans (linkTerm_le _ _ (Monitor.linkFigure_le hwindow))
  have hsupervise : s.monitor.view.mode = some .supervise → s.capOf e ≤ s.settings.vauto := fun hmode => by
    refine (s.capOf_le_holdTerm e).trans ?_
    unfold State.holdTerm
    rw [hmode]
    cases s.age? with
    | none => exact Nat.zero_le _
    | some age => dsimp only [superviseTerm]; split <;> omega
  have hover : s.record.auth.state ≠ .held → s.record.auth.state ≠ .transfer → s.capOf e = 0 := fun hheld htransfer =>
    s.capOf_overridden e (by simp [State.overridden, hview, Record.view, hheld, htransfer])
  unfold State.capBound
  cases hauth : s.record.auth with
  | free | assist | orphan => exact (hover (by simp [hauth, Authority.state]) (by simp [hauth, Authority.state])).le
  | held h m o =>
    cases m with
    | drive => exact hdrive (by simp [hview, Record.view, hauth, Authority.mode?])
    | supervise => exact hsupervise (by simp [hview, Record.view, hauth, Authority.mode?])
  | transfer h m i =>
    cases m with
    | drive => exact hdrive (by simp [hview, Record.view, hauth, Authority.mode?])
    | supervise => exact hsupervise (by simp [hview, Record.view, hauth, Authority.mode?])

/-- R130, R166: where MOTION_ENABLE has no condition to be high, an evaluation makes the cap 0. -/
theorem State.capOf_of_not_motionCondition (e : Evaluation) {s : State} (hloader : s.activeAs .loader = true)
    (hview : s.monitor.view = s.record.view) (h : s.motionCondition = false) : s.capOf e = 0 := by
  refine s.capOf_overridden e ?_
  have hstate : s.monitor.view.state = s.record.auth.state := by rw [hview]; rfl
  simp only [State.motionCondition, hloader, Bool.true_and, Bool.and_eq_false_iff] at h
  simp only [State.overridden, hstate]
  rcases h with (h | h) | h
  · cases hauth : s.record.auth <;> simp_all [Authority.current?, Authority.state]
  · simp_all
  · simp [h]

/-- In an active loader with the Monitor's view that of the record, the judging of motion enable and an evaluation make
motion safe. -/
theorem State.motionSafe_evaluated (e : Evaluation) {s : State} (hloader : s.activeAs .loader = true)
    (hview : s.monitor.view = s.record.view) (hwindow : s.monitor.window.length = 8)
    (hhold : s.startup.hold.isSome = true → s.startup.condition = .loading)
    (hload : s.startup.load ≠ .idle → s.startup.condition = .loading) : (s.judgeMotion.evaluate e).MotionSafe := by
  have hcondition : s.judgeMotion.motionCondition = s.motionCondition := rfl
  have hactive : s.active = true := (State.activeAs_iff.mp hloader).1
  refine ⟨rfl, fun hlow => ?_, State.capOf_le_capBound (s := s.judgeMotion) e hview hwindow, hview, hwindow, ?_, hhold,
    hload⟩
  · exact State.capOf_of_not_motionCondition (s := s.judgeMotion) e hloader hview (hcondition.trans hlow)
  · intro hinactive
    cases hactive.symm.trans hinactive

/-- A lowering evaluation does not raise the cap. -/
theorem State.capOf_lowering_le (s : State) : s.capOf .lowering ≤ s.envelope.cap :=
  s.capOf_le .lowering

/-! ### Changes aboard a loader -/

/-- In an active loader, a change of the record, the Monitor, the Envelope, the loader's side of the Relay, the latch and
the pins that judges motion enable and makes an evaluation. -/
theorem State.keeps_evaluated {s u : State} (e : Evaluation) (hloader : s.activeAs .loader = true)
    (hview : s.MotionSafe → u.monitor.view = u.record.view)
    (hwindow : s.MotionSafe → u.monitor.window.length = 8) (hlink : s.link.Steps u.link)
    (hpending : u.pending = s.pending := by rfl) (hstartup : u.startup = s.startup := by rfl)
    (hnow : s.now ≤ u.now := by rfl) (hliu : u.liu = s.liu := by rfl)
    (hholds : u.holds = s.holds := by rfl) (hboard : u.board = s.board := by rfl)
    (hrelay : u.relay.axes = s.relay.axes ∧ u.relay.driveTimer = s.relay.driveTimer := by exact ⟨rfl, rfl⟩)
    (hstops : u.discrete.stopList = s.discrete.stopList := by rfl) : s.Keeps (u.judgeMotion.evaluate e) := by
  have hloader' : u.activeAs .loader = true := by rw [State.activeAs_congr _ hstartup]; exact hloader
  refine .loader hloader (fun hs => ?_) (fun hq => ?_) hlink hpending hstartup hnow hholds hboard hrelay hstops
  · have hview' := hview hs
    have hwindow' := hwindow hs
    obtain ⟨_, _, _, _, _, _, hhold, hload⟩ := hs
    exact State.motionSafe_evaluated e hloader' hview' hwindow' (by rwa [hstartup]) (by rwa [hstartup])
  · show u.liu.Bounded
    rw [hliu]; exact hq

/-- R135: the bound of the cap, read off the state and the mode of the record. -/
theorem State.capBound_eq (s : State) :
    s.capBound =
      if s.record.auth.state = .held ∨ s.record.auth.state = .transfer then
        (match s.record.auth.mode? with
         | some .drive => s.settings.vmax
         | some .supervise => s.settings.vauto
         | none => 0)
      else 0 := by
  unfold State.capBound
  cases s.record.auth with
  | free | assist | orphan => rfl
  | held h m o => cases m <;> rfl
  | transfer h m i => cases m <;> rfl

/-- In an active loader, a change that leaves the record's view, the Monitor's view and window, the cap, the latch,
STOPCHAIN and MOTION_ENABLE. -/
theorem State.moves_loader {s t : State} (hloader : s.activeAs .loader = true) (hlink : s.link.Steps t.link)
    (hpending : t.pending = s.pending := by rfl) (hstartup : t.startup = s.startup := by rfl)
    (hnow : t.now = s.now := by rfl) (hliu : t.liu = s.liu := by rfl)
    (hauth : t.record.view = s.record.view := by rfl)
    (hview : t.monitor.view = s.monitor.view := by rfl) (hwindow : t.monitor.window = s.monitor.window := by rfl)
    (hcap : t.envelope.cap = s.envelope.cap := by rfl)
    (hholds : t.holds = s.holds := by rfl) (hboard : t.board = s.board := by rfl)
    (hrelay : t.relay.axes = s.relay.axes ∧ t.relay.driveTimer = s.relay.driveTimer := by exact ⟨rfl, rfl⟩)
    (hdiscrete : t.discrete = { s.discrete with indicator := t.discrete.indicator, flash := t.discrete.flash } := by rfl) :
    s.Moves t := by
  obtain ⟨hactive, hrole⟩ := State.activeAs_iff.mp hloader
  have hlatch : t.discrete.latch = s.discrete.latch := by rw [hdiscrete]
  have hchain : t.discrete.stopchain.active = s.discrete.stopchain.active := by rw [hdiscrete]
  have hmotion : t.discrete.motionEnable = s.discrete.motionEnable := by rw [hdiscrete]
  have hepoch : t.record.epoch = s.record.epoch := congrArg HoldView.epoch hauth
  have hcurrent : t.record.auth.current? = s.record.auth.current? := congrArg HoldView.holder hauth
  have hmode : t.record.auth.mode? = s.record.auth.mode? := congrArg HoldView.mode hauth
  have hstate : t.record.auth.state = s.record.auth.state := congrArg HoldView.state hauth
  refine ⟨.loader hloader ?_ (by rw [hliu]; exact id) hlink hpending hstartup hnow.ge hholds hboard hrelay
    (by rw [hdiscrete]), hepoch, hcap.le, fun c hc => by rw [hlatch]; exact hc⟩
  rintro ⟨henable, hlow, hbound, hviews, hlength, -, hhold, hload⟩
  have hcondition : t.motionCondition = s.motionCondition := by
    simp [State.motionCondition, State.activeAs_congr _ hstartup, hcurrent, hlatch, State.chainClosed, hchain]
  have hcapBound : t.capBound = s.capBound := by
    simp [State.capBound_eq, State.settings, hstartup, hmode, hstate]
  exact ⟨by rw [hmotion, henable, hcondition], by rw [hmotion, hcap]; exact hlow, by rw [hcap, hcapBound]; exact hbound,
    by rw [hview, hviews, hauth], by rw [hwindow]; exact hlength,
    by rw [State.active_congr hstartup, hactive]; simp, by rwa [hstartup], by rwa [hstartup]⟩

theorem State.moves_giveRecord {s : State} (hloader : s.activeAs .loader = true) (r : CommandRecord) :
    s.Moves (s.giveRecord r) :=
  State.moves_loader hloader (.trans .of_same (Link.steps_start s.now _))

/-- R131: a lowering evaluation. -/
theorem State.moves_lowering {s : State} (hloader : s.activeAs .loader = true) : s.Moves (s.evaluate .lowering) where
  toKeeps := by
    refine .loader hloader ?_ id (.refl _)
    rintro ⟨henable, hlow, -, hview, hwindow, hfree, hhold, hload⟩
    refine ⟨henable, fun hmotion => ?_, State.capOf_le_capBound (s := s) _ hview hwindow, hview, hwindow, hfree, hhold,
      hload⟩
    exact State.capOf_of_not_motionCondition (s := s) _ hloader hview (henable.symm.trans hmotion)
  epoch := rfl
  cap := s.capOf_lowering_le
  latch _ := id

theorem State.moves_relayLowered {s : State} (hloader : s.activeAs .loader = true) (before : State) :
    s.Moves (s.relayLowered before) := by
  unfold State.relayLowered
  split
  · exact .refl s
  · split
    · exact State.moves_giveRecord hloader _
    · exact .refl s

theorem State.moves_showState {s : State} (hloader : s.activeAs .loader = true) : s.Moves s.showState :=
  State.moves_loader hloader (.refl _)

theorem State.moves_sendStatus (s : State) : s.Moves s.sendStatus := State.moves_give _ s

theorem State.moves_announce {s : State} (hin : s.inService = true) : s.Moves s.announce :=
  s.moves_sendStatus.trans (State.moves_post _ (s.moves_sendStatus.inService hin))

/-! ### Changes of the record (R25, R48, R131, R151) -/

/-- R48, R131, R166: the record becomes `auth`, motion enable is judged and the cap lowered. -/
def State.turn (auth : Authority) (s : State) : State :=
  { s with record := { s.record with auth } }.inform.judgeMotion.evaluate .lowering

theorem State.moves_turn {s : State} (hloader : s.activeAs .loader = true) (auth : Authority) :
    s.Moves (s.turn auth) where
  toKeeps := State.keeps_evaluated (u := State.inform { s with record := { s.record with auth } }) .lowering hloader
    (fun _ => rfl) (fun hs => hs.2.2.2.2.1) (.refl _)
  epoch := rfl
  cap := State.capOf_lowering_le _
  latch _ := id

theorem State.moves_changeState {s : State} (hloader : s.activeAs .loader = true) (auth : Authority) :
    s.Moves (s.changeState auth) := by
  have hturn := State.moves_turn hloader auth
  have hrecord : s.Moves (if auth.state = .orphan then (s.turn auth).giveZeroed else (s.turn auth).relayLowered s) := by
    split
    · exact hturn.trans (State.moves_giveRecord (hturn.activeAs hloader) _)
    · exact hturn.trans (State.moves_relayLowered (hturn.activeAs hloader) _)
  have hshown := hrecord.trans (State.moves_showState (hrecord.activeAs hloader))
  exact hshown.trans (State.moves_announce (State.inService_of_activeAs (hshown.activeAs hloader)))

/-- R25, R48, R111, R126, R166: the part of a grant that changes the record, the Monitor and the permit, judges motion
enable and lowers the cap. -/
def State.take (target : Option (Nat × Mode)) (s : State) : State :=
  let t := State.monitorGrant (target.map Prod.snd) (State.inform { s with record := s.record.grant target })
  State.evaluate .lowering { t with envelope := { t.envelope with permit := false } }.judgeMotion

theorem State.keeps_take {s : State} (hloader : s.activeAs .loader = true) (target : Option (Nat × Mode)) :
    s.Keeps (s.take target) :=
  State.keeps_evaluated (e := .lowering) hloader (fun _ => rfl) (fun _ => rfl) (.refl _)
    (u := { (State.monitorGrant (target.map Prod.snd) (State.inform { s with record := s.record.grant target })) with
      envelope := { s.envelope with permit := false } })

/-- R26, R149, R159: what a grant gives out. -/
theorem State.moves_take_makeGrant {s : State} (hloader : s.activeAs .loader = true) (target : Option (Nat × Mode)) :
    (s.take target).Moves (s.makeGrant target) := by
  have hloader' : (s.take target).activeAs .loader = true := by
    exact hloader
  have hgiven : (s.take target).Moves ((s.take target).relayGrant (target.map Prod.snd)) :=
    State.moves_loader hloader' (.trans .of_same (Link.steps_start _ _))
  have hshown := hgiven.trans (State.moves_showState (hgiven.activeAs hloader'))
  have hgranted := hshown.trans (State.moves_give
    (TxFrame.make .grant 0 s.station (s.record.epoch + 1)
      [byte ((target.map Prod.fst).getD 0), modeCode? (target.map Prod.snd), byte (s.record.auth.holder?.getD 0)]) _)
  exact hgranted.trans (State.moves_announce (State.inService_of_activeAs (hgranted.activeAs hloader')))

theorem State.keeps_makeGrant {s : State} (hloader : s.activeAs .loader = true) (target : Option (Nat × Mode)) :
    s.Keeps (s.makeGrant target) :=
  (State.keeps_take hloader target).trans (State.moves_take_makeGrant hloader target).toKeeps

/-- R25: a grant makes the record that of the grant. -/
theorem State.makeGrant_record (target : Option (Nat × Mode)) (s : State) :
    (s.makeGrant target).record = s.record.grant target := by
  simp [State.makeGrant, Record.grant, State.announce, State.sendStatus, State.monitorGrant, State.inform, State.evaluate,
    State.judgeMotion]

theorem State.makeGrant_cap_le {s : State} (hloader : s.activeAs .loader = true) (target : Option (Nat × Mode)) :
    (s.makeGrant target).envelope.cap ≤ s.envelope.cap :=
  (State.moves_take_makeGrant hloader target).cap.trans (State.capOf_lowering_le _)

theorem State.makeGrant_latch {s : State} (hloader : s.activeAs .loader = true) (target : Option (Nat × Mode))
    {c : StopCause} (h : s.discrete.latch = some c) : (s.makeGrant target).discrete.latch = some c :=
  (State.moves_take_makeGrant hloader target).latch c h

/-! ### The stop latch (R162, R164) -/

/-- R162, R166: the latch is set, STOP_SET raised, motion enable judged and the cap lowered. -/
def State.latched (cause : StopCause) (s : State) : State :=
  let t := { s with discrete := { s.discrete with latch := some (s.discrete.latch.getD cause) } }
  (t.raise .stopSet).judgeMotion.evaluate .lowering

/-- R162: a setting of the latch with an edge of STOPCHAIN before it: the filter of STOPCHAIN may be any. -/
theorem State.moves_latched {s : State} (hloader : s.activeAs .loader = true) (cause : StopCause) (chain : InputFilter) :
    s.Moves (State.latched cause { s with discrete := { s.discrete with stopchain := chain } }) where
  toKeeps := State.keeps_evaluated (e := .lowering) hloader
    (u := State.raise .stopSet { s with discrete := { s.discrete with
      stopchain := chain, latch := some (s.discrete.latch.getD cause) } })
    (fun hs => hs.2.2.2.1) (fun hs => hs.2.2.2.2.1) (Link.steps_raise _ _)
  epoch := rfl
  cap := State.capOf_lowering_le _
  latch c hc := by
    show some (s.discrete.latch.getD cause) = some c
    rw [hc]; rfl

/-- R150, R162: what a setting of the latch gives out. -/
theorem State.moves_latched_setLatch {s : State} (hloader : s.activeAs .loader = true) (cause : StopCause) :
    (s.latched cause).Moves (s.setLatch cause) := by
  have hloader' : (s.latched cause).activeAs .loader = true := by
    exact hloader
  unfold State.setLatch
  dsimp only
  split
  · have hgiven : (s.latched cause).Moves (s.latched cause).giveZeroed := State.moves_giveRecord hloader' _
    have hsent := hgiven.trans (State.moves_sendStatus _)
    exact hsent.trans (State.moves_post _ (State.inService_of_activeAs (hsent.activeAs hloader')))
  · exact State.moves_sendStatus _

theorem State.moves_setLatch {s : State} (hloader : s.activeAs .loader = true) (cause : StopCause) :
    s.Moves (s.setLatch cause) :=
  (State.moves_latched hloader cause s.discrete.stopchain).trans (State.moves_latched_setLatch hloader cause)

end Sys2Proof.Machine
end

/-!
PROOFS. The moves of the loader's frames, timers, requests and edges, of the LIU, and of the Local Link's own requests and
messages (chapters 2, 3, 9 and 10).
-/
section

namespace Sys2Proof.Machine

/-! ### The clearing of the latch, and the envelope interval (R120, R164) -/

/-- R164: the clearing of a set latch keeps the invariants: the cap was 0 while MOTION_ENABLE was low. -/
theorem State.keeps_clearLatch {s : State} (hloader : s.activeAs .loader = true)
    (hset : s.discrete.latch.isSome = true) : s.Keeps s.clearLatch := by
  have hcleared : s.Keeps (State.judgeMotion { s with discrete := { s.discrete with latch := none } }) := by
    refine .loader hloader ?_ id (.refl _)
    rintro ⟨henable, hlow, -, hview, hwindow, hfree, hhold, hload⟩
    have hmotion : s.discrete.motionEnable = false := by
      rw [henable]
      simp [State.motionCondition, Option.isNone_eq_false_iff.mpr hset]
    have hcap : s.envelope.cap = 0 := hlow hmotion
    exact ⟨rfl, fun _ => hcap, (Nat.le_of_eq hcap).trans (Nat.zero_le _), hview, hwindow, hfree, hhold, hload⟩
  refine hcleared.trans (State.Moves.trans (State.moves_sendStatus _) (State.moves_post _ ?_)).toKeeps
  exact (State.moves_sendStatus _).inService (State.inService_of_activeAs hloader)

/-- R109, R120: the interval timer, the scoring and the evaluation of an interval. -/
def State.measured (due : Nat) (s : State) : State :=
  let t := s.reach due
  State.evaluate .interval (State.scoreSlot { t with envelope := { t.envelope with timer := some (t.now + t.periods 1) } })

theorem State.scoreSlot_window_length {s : State} (h : s.monitor.window.length = 8) :
    s.scoreSlot.monitor.window.length = 8 := by
  simp only [State.scoreSlot]
  split
  · simp [h]
  · exact h

theorem State.scoreSlot_view (s : State) : s.scoreSlot.monitor.view = s.monitor.view := rfl

theorem State.keeps_measured {s : State} (hloader : s.activeAs .loader = true) (due : Nat) :
    s.Keeps (s.measured due) := by
  have hreach := (s.moves_reach due).toKeeps
  refine hreach.trans (.loader ((s.moves_reach due).activeAs hloader) ?_ id (.refl _) (hpending := rfl)
    (hstartup := rfl) (hnow := le_rfl) (hholds := rfl) (hboard := rfl) (hrelay := ⟨rfl, rfl⟩) (hstops := rfl))
  rintro ⟨henable, hlow, -, hview, hwindow, hfree, hhold, hload⟩
  set u : State := State.scoreSlot { s.reach due with envelope := { (s.reach due).envelope with
    timer := some ((s.reach due).now + (s.reach due).periods 1) } } with hu
  have hview' : u.monitor.view = u.record.view := hview
  have hwindow' : u.monitor.window.length = 8 := State.scoreSlot_window_length hwindow
  refine ⟨henable, fun hmotion => ?_, State.capOf_le_capBound .interval hview' hwindow', hview', hwindow', hfree, hhold,
    hload⟩
  have hcondition : u.motionCondition = false := henable.symm.trans hmotion
  exact State.capOf_of_not_motionCondition .interval hloader hview' hcondition

theorem State.moves_measured_envelopeInterval {s : State} (hloader : s.activeAs .loader = true) (due : Nat) :
    (s.measured due).Moves (s.envelopeInterval due) := by
  have hloader' : (s.measured due).activeAs .loader = true := hloader
  have hgiven (r : CommandRecord) : (s.measured due).Moves ((s.measured due).giveRecord r) :=
    State.moves_giveRecord hloader' r
  have hcleared {u : State} (h : (s.measured due).Moves u) :
      (s.measured due).Moves { u with relay := { u.relay with taken := false } } :=
    h.trans (State.moves_loader (h.activeAs hloader') (.refl _))
  show (s.measured due).Moves (s.measured due).relayInterval
  unfold State.relayInterval
  dsimp only
  split
  · split
    · exact hcleared (hgiven _)
    · exact hcleared (.refl _)
  · exact hcleared (hgiven _)

/-! ### The loader's frames (Table 2-6) -/

theorem State.moves_refuse (r : RefuseReason) (f : RxFrame) (s : State) : s.Moves (s.refuse r f) := State.moves_give _ s

theorem State.moves_takeOffer {s : State} (hloader : s.activeAs .loader = true) (f : RxFrame) :
    s.Moves (s.takeOffer f) := by
  unfold State.takeOffer
  split
  · exact State.moves_refuse _ _ s
  · split
    · exact State.moves_refuse _ _ s
    · dsimp only
      split
      · exact State.moves_changeState hloader _
      · next hauth =>
        have hoffered (i : Incoming) : s.Moves { s with record := { s.record with auth := .transfer _ _ i } } :=
          State.moves_loader hloader (.refl _) (hauth := by simp only [Record.view, hauth]; rfl)
        exact (hoffered _).trans (State.moves_announce (State.inService_of_activeAs hloader))
      all_goals exact .refl s

theorem State.moves_takeWithdraw {s : State} (hloader : s.activeAs .loader = true) (f : RxFrame) :
    s.Moves (s.takeWithdraw f) := by
  unfold State.takeWithdraw
  split
  · split
    · exact State.moves_changeState hloader _
    · exact .refl s
  all_goals exact .refl s

theorem State.moves_takeHolderFrame {s : State} (hloader : s.activeAs .loader = true) (f : RxFrame) :
    s.Moves (s.takeHolderFrame f) := by
  have htaken : s.Moves (s.monitorTake f) := State.moves_loader hloader (.refl _)
  have hpermit (p : Bool) : s.Moves { s.monitorTake f with envelope := { (s.monitorTake f).envelope with permit := p } } :=
    htaken.trans (State.moves_loader (htaken.activeAs hloader) (.refl _))
  have hrelay {u : State} (h : s.Moves u) : s.Moves (u.relayTake f) :=
    h.trans (State.moves_loader (h.activeAs hloader) (.trans .of_same (Link.steps_start _ _)))
  unfold State.takeHolderFrame
  split
  · dsimp only
    split
    · split
      · exact hrelay (hpermit _)
      · exact hrelay ((hpermit _).trans (State.moves_lowering ((hpermit _).activeAs hloader)))
    · exact hrelay htaken
  · exact .refl s

end Sys2Proof.Machine
end

/-!
PROOFS. What every command obeys, and the commands that move the state: those of the loader's timers and requests, of the
LIU, of the discrete lines and of the Local Link (chapters 2, 3, 9 and 10).
-/
section

namespace Sys2Proof.Machine

/-! ### What a command obeys -/

/-- What every command keeps to: the queue and the clock; the five invariants; and the rules of the epoch (R25), the cap
(R130, R131) and the stop latch (R161, R164). -/
structure Obeys (c : Instr) (s t : State) : Prop where
  pending : t.pending = s.pending
  now : s.now ≤ t.now
  attn : s.AttnSound → t.AttnSound
  bounded : s.Bounded → t.Bounded
  tables : s.TablesSound → t.TablesSound
  roles : s.RolesSound → t.RolesSound
  motion : s.MotionSafe → t.MotionSafe
  epoch : t.record.epoch = s.record.epoch ∨
    (t.record.auth = .free ∧ t.record.epoch = 0 ∧ t.record.lastGrant = none) ∨
    (t.record.epoch = s.record.epoch + 1 ∧
      ∃ g, t.record.lastGrant = some g ∧ g.epoch = t.record.epoch ∧ g.holder = t.record.auth.holder? ∧
        g.mode = t.record.auth.mode? ∧ g.previous = s.record.auth.holder?)
  cap : t.envelope.cap ≤ s.envelope.cap ∨
    (c = .envelopeIntervalExpiry ∧ t.envelope.cap ≤ s.envelope.cap + s.settings.rup)
  latch : ∀ cause, s.discrete.latch = some cause →
    t.discrete.latch = some cause ∨ c = .powerOn ∨ c = .supplyFall ∨
    (c = .receptionComplete ∧ t.discrete.latch = none ∧
      ∃ f, s.TakesAsLoader f ∧ f.kind = .clear ∧ s.record.auth.current? = some f.source ∧
        f.epoch = s.record.epoch ∧ s.discrete.stopchain.active = true) ∨
    (t.discrete.latch = none ∧ t.startup.role = .chair ∧
      ∃ straps : Straps, straps.role = false ∧
        (c = .powerOnHoldExpiry straps ∨ c = .resetRise straps ∨ c = .messageSent straps))

/-- A command that moves the state obeys. -/
theorem State.Moves.obeys {s t : State} (h : s.Moves t) (c : Instr) : Obeys c s t where
  pending := h.pending
  now := h.now
  attn := h.attn
  bounded := h.bounded
  tables := h.tables
  roles := h.roles
  motion := h.motion
  epoch := .inl h.epoch
  cap := .inl h.cap
  latch cause hc := .inl (h.latch cause hc)

/-- A command that makes a grant obeys. -/
theorem State.Moves.obeys_makeGrant {s r : State} (h : s.Moves r) (hrecord : r.record.auth = s.record.auth)
    (hloader : s.activeAs .loader = true) (target : Option (Nat × Mode)) (c : Instr) :
    Obeys c s (r.makeGrant target) := by
  have hloader' := h.activeAs hloader
  have hkeeps := h.toKeeps.trans (State.keeps_makeGrant hloader' target)
  refine ⟨hkeeps.pending, hkeeps.now, hkeeps.attn, hkeeps.bounded, hkeeps.tables, hkeeps.roles, hkeeps.motion,
    .inr (.inr ?_), .inl ((State.makeGrant_cap_le hloader' target).trans h.cap),
    fun cause hc => .inl (State.makeGrant_latch hloader' target (h.latch cause hc))⟩
  rw [State.makeGrant_record]
  refine ⟨congrArg (· + 1) h.epoch, _, rfl, rfl, ?_, ?_, by rw [← hrecord]⟩
  · cases target <;> rfl
  · cases target <;> rfl

/-- The envelope interval obeys: it raises the cap by Rup at most. -/
theorem State.obeys_envelopeInterval {s : State} (hloader : s.activeAs .loader = true) (due : Nat) :
    Obeys .envelopeIntervalExpiry s (s.envelopeInterval due) := by
  have hafter := State.moves_measured_envelopeInterval hloader due
  have hkeeps := (State.keeps_measured hloader due).trans hafter.toKeeps
  refine ⟨hkeeps.pending, hkeeps.now, hkeeps.attn, hkeeps.bounded, hkeeps.tables, hkeeps.roles, hkeeps.motion,
    .inl hafter.epoch, .inr ⟨rfl, hafter.cap.trans ?_⟩, fun cause hc => .inl (hafter.latch cause hc)⟩
  exact State.capOf_le .interval _

/-! ### Receptions (R8 to R11) -/

theorem State.moves_duplicate {s : State} (hactive : s.active = true) : s.Moves s.duplicate := by
  have hraised := State.moves_raise .duplicateStation (State.inService_of_active hactive)
  unfold State.duplicate
  cases hrole : s.startup.role with
  | chair => exact hraised
  | loader =>
    exact hraised.trans (State.moves_setLatch (hraised.activeAs (State.activeAs_iff.mpr ⟨hactive, hrole⟩)) _)

/-- A CLEAR that is taken clears the latch for the current holder with the matching epoch and the chain closed, and
otherwise moves the state. -/
theorem State.takeClear_cases {s : State} (f : RxFrame) :
    s.Moves (s.takeClear f) ∨
      (s.takeClear f = s.clearLatch ∧ s.discrete.latch.isSome = true ∧ s.record.auth.current? = some f.source ∧
        f.epoch = s.record.epoch ∧ s.chainClosed = true) := by
  unfold State.takeClear
  split
  · exact .inl (State.moves_refuse _ _ s)
  · next hholder =>
    split
    · exact .inl (State.moves_refuse _ _ s)
    · next hepoch =>
      split
      · exact .inl (State.moves_refuse _ _ s)
      · next hchain =>
        split
        · next hset => exact .inr ⟨rfl, hset, by simpa using hholder, by simpa using hepoch, by simpa using hchain⟩
        · exact .inl (.refl s)

/-- R29, R32: a verdict is a grant or one REFUSE. -/
theorem State.Moves.obeys_carryOut {s r : State} (h : s.Moves r) (hrecord : r.record.auth = s.record.auth)
    (hloader : s.activeAs .loader = true) (v : Verdict) (f : RxFrame) (c : Instr) : Obeys c s (r.carryOut v f) := by
  cases v with
  | grant holder mode => exact h.obeys_makeGrant hrecord hloader _ c
  | refuse reason => exact (h.trans (State.moves_refuse reason f r)).obeys c

/-- Table 2-6: what the loader's blocks do with a frame, the clearing of the latch apart. -/
theorem State.Moves.obeys_loaderTakes {s r : State} (h : s.Moves r) (hrecord : r.record.auth = s.record.auth)
    (hloader : s.activeAs .loader = true) {f : RxFrame} (hkind : f.kind ≠ .clear) (c : Instr) :
    Obeys c s (r.loaderTakes f) := by
  have hloader' := h.activeAs hloader
  have hrefuse (reason : RefuseReason) : Obeys c s (r.refuse reason f) :=
    (h.trans (State.moves_refuse reason f r)).obeys c
  have hverdict (v : Verdict) : Obeys c s (r.carryOut v f) := h.obeys_carryOut hrecord hloader v f c
  unfold State.loaderTakes
  cases hk : f.kind with
  | claim =>
    dsimp only [State.takeClaim]
    split
    · exact hrefuse _
    · split
      · exact hrefuse _
      · exact hverdict _
  | seize =>
    dsimp only [State.takeSeize]
    split
    · exact hrefuse _
    · split
      · exact hrefuse _
      · split
        · exact hrefuse _
        · exact hverdict _
  | accept =>
    dsimp only [State.takeAccept]
    split
    · exact hrefuse _
    · split
      · split
        · exact (h.trans (State.moves_give _ r)).obeys c
        · exact h.obeys c
      · exact hverdict _
  | offer => exact (h.trans (State.moves_takeOffer hloader' f)).obeys c
  | withdraw => exact (h.trans (State.moves_takeWithdraw hloader' f)).obeys c
  | release =>
    dsimp only [State.takeRelease]
    split
    · exact hrefuse _
    · split
      · exact hrefuse _
      · exact h.obeys_makeGrant hrecord hloader none c
  | drive | supervise => exact (h.trans (State.moves_takeHolderFrame hloader' f)).obeys c
  | stop => exact (h.trans (State.moves_setLatch hloader' _)).obeys c
  | clear => exact absurd hk hkind
  | decline | grant | refuse | status | assistCall => exact h.obeys c

/-- R47, R164: the clearing of the latch by a CLEAR received. -/
theorem State.obeys_takeClear {s r : State} {f : RxFrame} (h : s.Moves r) (htakes : s.TakesAsLoader f)
    (hkind : f.kind = .clear) (hrecord : r.record = s.record) (hdiscrete : r.discrete = s.discrete) :
    Obeys .receptionComplete s (r.takeClear f) := by
  have hloader : s.activeAs .loader = true := State.activeAs_iff.mpr ⟨htakes.1.1, htakes.2.1⟩
  rcases State.takeClear_cases (s := r) f with hmoves | ⟨hclear, hset, hholder, hepoch, hchain⟩
  · exact (h.trans hmoves).obeys _
  · have hkeeps := h.toKeeps.trans (State.keeps_clearLatch (h.activeAs hloader) hset)
    rw [hclear]
    refine ⟨hkeeps.pending, hkeeps.now, hkeeps.attn, hkeeps.bounded, hkeeps.tables, hkeeps.roles, hkeeps.motion, .inl ?_,
      .inl ?_, fun _ _ => .inr (.inr (.inr (.inl ⟨rfl, ?_, f, htakes, hkind, ?_, ?_, ?_⟩)))⟩
    · simp [State.clearLatch, State.sendStatus, h.epoch]
    · simpa [State.clearLatch, State.sendStatus] using h.cap
    · simp [State.clearLatch, State.sendStatus, State.judgeMotion]
    · rw [← hrecord]; exact hholder
    · rw [← hrecord]; exact hepoch
    · rw [← hdiscrete]; exact hchain

theorem State.obeys_receptionComplete (s t : State) (h : exec .receptionComplete s = .next t) :
    Obeys .receptionComplete s t := by
  have hended {q : Liu} (hq : s.liu.Bounded → q.Bounded) : s.Moves { s with liu := q } := State.moves_liu q hq
  obtain rfl : _ = t := Host.Outcome.next.inj h
  split
  · exact (State.Moves.refl s).obeys _
  · next hlcd =>
    split
    · next hhears =>
      split
      · next hactive =>
        have hreceived : s.Moves { s with liu := { s.liu.endReception with gapFrom := s.now, blocked := none } } :=
          hended fun ⟨_, hrest⟩ => ⟨by simp [Liu.endReception], hrest⟩
        dsimp only
        split
        · next hreceiving =>
          unfold State.judgeFrame
          split
          · next hbad =>
            refine (hreceived.trans (State.moves_liu _ ?_)).obeys _
            exact fun ⟨hbuffer, _, hrest⟩ => ⟨hbuffer, by simp, hrest⟩
          · next f hgood =>
            have hreceives : s.Receives f := by
              refine ⟨hactive, by simpa using hlcd, ?_, hreceiving, hgood⟩
              simp only [State.hearsLine, Bool.and_eq_true, Bool.not_eq_true'] at hhears
              exact hhears.2
            unfold State.takeFrame
            split
            · exact (hreceived.trans (State.moves_duplicate (hreceived.active hactive))).obeys _
            · next hsource =>
              have hactive' := hreceived.active hactive
              dsimp only at hsource hactive' ⊢
              cases hrole : s.startup.role with
              | chair =>
                have hchair : s.activeAs .chair = true := State.activeAs_iff.mpr ⟨hactive, hrole⟩
                exact (hreceived.trans (State.moves_deliverChair (hreceived.activeAs hchair) f)).obeys _
              | loader =>
                have hloader : s.activeAs .loader = true := State.activeAs_iff.mpr ⟨hactive, hrole⟩
                dsimp only [State.deliverLoader]
                split
                · next hreaches =>
                  by_cases hkind : f.kind = .clear
                  · have hstation : f.loader = s.station := by
                      rcases hreaches with h | ⟨h, _⟩
                      · exact h
                      · simp [hkind] at h
                    rw [State.loaderTakes, hkind]
                    exact State.obeys_takeClear hreceived ⟨hreceives, hrole, hsource, hstation⟩ hkind rfl rfl
                  · exact hreceived.obeys_loaderTakes rfl hloader hkind _
                · exact hreceived.obeys _
        · exact hreceived.obeys _
      · exact (hended (q := s.liu.endReception) fun ⟨_, hrest⟩ => ⟨by simp [Liu.endReception], hrest⟩).obeys _
    · exact (hended (q := { s.liu with lcd := false }) id).obeys _

/-! ### The timers of a loader (R27, R40, R43, R45, R112, R159) -/

theorem State.moves_lapse {s : State} (hloader : s.activeAs .loader = true) : s.Moves s.lapse := by
  unfold State.lapse
  split
  · exact State.moves_changeState hloader _
  · exact .refl s

/-- R45: the repeat of an ASSIST_CALL. -/
theorem State.moves_assistRepeat {s : State} (hloader : s.activeAs .loader = true) {h : Nat} {location : Half} {due : Nat}
    (hauth : s.record.auth = .assist h location due) (next : Nat) :
    s.Moves (State.callAssist location { s with record := { s.record with auth := .assist h location next } }) := by
  have hrepeat : s.Moves { s with record := { s.record with auth := .assist h location next } } :=
    State.moves_loader hloader (.refl _) (hauth := by simp only [Record.view, hauth]; rfl)
  exact hrepeat.trans (State.moves_give _ _)

/-! ### The machine controller's requests (R44, R46, R165, R179) -/

theorem State.moves_raiseAssist {s : State} (hloader : s.activeAs .loader = true) (location : Half) :
    s.Moves (s.raiseAssist location).1 := by
  unfold State.raiseAssist
  split
  · have hcalled : s.Moves (s.callAssist location) := State.moves_give _ s
    exact hcalled.trans (State.moves_changeState (hcalled.activeAs hloader) _)
  all_goals exact .refl s

theorem State.moves_cancelAssist {s : State} (hloader : s.activeAs .loader = true) : s.Moves s.cancelAssist.1 := by
  unfold State.cancelAssist
  split
  · exact State.moves_changeState hloader _
  all_goals exact .refl s

theorem State.moves_takeReport {s : State} (hloader : s.activeAs .loader = true) (speed location : Half) (zone : Byte) :
    s.Moves (s.takeReport speed location zone).1 := by
  have hkept (r : Report) : s.Moves { s with link := { s.link with lastReport := some r } } :=
    State.moves_link _ (State.inService_of_activeAs hloader) .of_same
  have hlowered := (hkept { speed, location, zone := zoneOf zone, arrived := s.now }).trans
    (State.moves_lowering ((hkept _).activeAs hloader))
  exact hlowered.trans (State.moves_relayLowered (hlowered.activeAs hloader) s)

/-! ### The requests of the Local Link (R177, R178, R181, R183, R186, R187) -/

theorem State.moves_readFlags {s : State} (hin : s.inService = true) (named : Half) : s.Moves (s.readFlags named).1 :=
  State.moves_link _ hin ⟨.inr rfl, id⟩

theorem State.moves_setMask {s : State} (hin : s.inService = true) (named : Half) : s.Moves (s.setMask named).1 :=
  State.moves_link _ hin ⟨.inr rfl, id⟩

theorem State.moves_addCredit {s : State} (hin : s.inService = true) (n : Byte) : s.Moves (s.addCredit n).1 := by
  refine State.moves_link _ hin (.trans ?_ (Link.steps_start _ _))
  exact ⟨.inl ⟨rfl, rfl, rfl⟩, fun ⟨hnotices, _, hrest⟩ => ⟨hnotices, by simp, hrest⟩⟩

theorem State.moves_placeMark {s : State} (hin : s.inService = true) : s.Moves s.placeMark.1 := by
  unfold State.placeMark
  split
  · exact .refl s
  · split
    · exact State.moves_raise _ hin
    · exact State.moves_link _ hin .of_same

theorem State.moves_askRestart {s : State} (hin : s.inService = true) (kind : Byte) : s.Moves (s.askRestart kind).1 := by
  unfold State.askRestart
  split
  · split
    · exact .refl s
    · exact State.moves_link _ hin .of_same
  · split
    · exact State.moves_link _ hin .of_same
    · exact .refl s

end Sys2Proof.Machine
end

/-!
PROOFS. The moves of the LIU's commands, of the edges aboard a loader, of a request by its row or by its bytes, and of the
completion of a message that begins no restart (chapters 2, 9 and 10).
-/
section

namespace Sys2Proof.Machine

/-! ### The LIU (R1, R2, R16 to R20) -/

theorem State.moves_lcdRise (s : State) :
    s.Moves { s with liu :=
      let heard := if s.hearsLine then Liu.beginReception { s.liu with lcd := true } else { s.liu with lcd := true }
      if s.hearsLine && s.active then (heard.startBlocked s.now).accessRise else heard } := by
  refine State.moves_liu _ fun hq => ?_
  have hheard : (if s.hearsLine then Liu.beginReception { s.liu with lcd := true }
      else { s.liu with lcd := true }).Bounded := by
    split
    · exact ⟨by simp [Liu.beginReception], hq.2⟩
    · exact hq
  dsimp only
  split
  · exact Liu.Bounded.accessRise hheard
  · exact hheard

theorem Liu.Bounded.beginSending {q : Liu} (h : q.Bounded) (now station : Nat) : (q.beginSending now station).Bounded := by
  unfold Liu.beginSending
  split
  · exact h
  · exact h.dropHead

theorem Liu.Bounded.lowerKey {q : Liu} (h : q.Bounded) (now : Nat) : (q.lowerKey now).Bounded := by
  unfold Liu.lowerKey
  dsimp only
  split
  · exact ⟨by simp [Liu.startBlocked, Liu.beginReception], h.2⟩
  · exact h

theorem Liu.Bounded.afterSending {q : Liu} (h : q.Bounded) (now station : Nat) : (q.afterSending now station).Bounded := by
  unfold Liu.afterSending
  split
  · exact h
  · exact h.enterGap now station

/-- R27: the status timer is set or stopped. -/
theorem State.moves_statusTimer {s : State} (hactive : s.active = true) (timer : Option Nat) :
    s.Moves { s with record := { s.record with statusTimer := timer } } where
  pending := rfl
  startup := rfl
  now := le_rfl
  attn := id
  bounded := id
  tables := id
  roles := by
    rintro ⟨-, hrest⟩
    have hactive' : State.active { s with record := { s.record with statusTimer := timer } } = true := hactive
    exact ⟨by simp [hactive'], hrest⟩
  motion := id
  epoch := rfl
  cap := le_rfl
  latch _ := id

/-- In an active part of either role, a change of each entry that keeps its loader. -/
theorem State.moves_mapEntries {s : State} (hactive : s.active = true) {f : Entry → Entry}
    (hf : ∀ e, (f e).loader = e.loader) : s.Moves { s with holds := { s.holds with entries := s.holds.entries.map f } } := by
  have hloaders : (s.holds.entries.map f).map (·.loader) = s.holds.entries.map (·.loader) := by simp [hf]
  have hfollows : s.holds.Follows { s.holds with entries := s.holds.entries.map f } := .of_loaders hloaders rfl
  refine ⟨⟨rfl, rfl, le_rfl, id, fun hs => ?_, fun hs => hs.follows hfollows rfl, ?_, id⟩, rfl, le_rfl, fun _ => id⟩
  · obtain ⟨hq, hentries, hrest⟩ := (State.bounded_iff s).mp hs
    exact (State.bounded_iff _).mpr ⟨hq, hfollows.length_le.trans hentries, hrest⟩
  · rintro ⟨-, hchair, hloader, hrest⟩
    have hactive' : State.active { s with holds := { s.holds with entries := s.holds.entries.map f } } = true := hactive
    refine ⟨by simp [hactive'], hchair, fun hrole => ?_, hrest⟩
    obtain ⟨hholds, hothers⟩ := hloader hrole
    exact ⟨by rw [hholds]; rfl, hothers⟩

theorem State.moves_informSent {s : State} (hactive : s.active = true) (owner : FrameOwner) :
    s.Moves (s.informSent owner) := by
  cases owner with
  | plain => exact .refl s
  | status => exact State.moves_statusTimer hactive _
  | outstanding ref => exact State.moves_mapEntries hactive fun e => by split <;> rfl
  | offer ref =>
    refine State.moves_mapEntries hactive fun e => ?_
    split
    · split <;> rfl
    all_goals rfl
  | stop =>
    have hcleared := State.moves_discrete hactive { s.discrete with stopOutstanding := false } le_rfl
    exact hcleared.trans (State.moves_giveStop _)
  | clear => exact State.moves_discrete hactive { s.discrete with clearUnsent := false } le_rfl

theorem State.moves_sendingDone {s : State} (hactive : s.active = true) (out : Sending) : s.Moves (s.sendingDone out) := by
  have hreach := s.moves_reach out.endsAt
  have hlowered := hreach.trans (State.moves_liu ((s.reach out.endsAt).liu.lowerKey (s.reach out.endsAt).now)
    fun hq => hq.lowerKey _)
  have hinformed := hlowered.trans (State.moves_informSent (hlowered.active hactive) out.frame.owner)
  exact hinformed.trans (State.moves_liu _ fun hq => hq.afterSending _ _)

/-! ### The edges aboard a loader (R154, R156) -/

/-- R156: an edge of STOPCHAIN, or a sample that makes none: a filter that turns active has been inactive. -/
theorem State.moves_chainEdge {s : State} (hloader : s.activeAs .loader = true) (chain : InputFilter)
    (hedge : chain.active = true → s.discrete.stopchain.active = false) :
    s.Moves (State.deliverEdge .stopchain chain.active { s with discrete := { s.discrete with stopchain := chain } }) := by
  have hin := State.inService_of_activeAs hloader
  have hrole := (State.activeAs_iff.mp hloader).2
  have hnotice := State.moves_inputNotice hin .stopchain chain.active
  have hframe (u : State) : u.inputNotice .stopchain chain.active =
      { u with link := (u.inputNotice .stopchain chain.active).link } := by
    unfold State.inputNotice
    split <;> rfl
  have hcommute : State.inputNotice .stopchain chain.active { s with discrete := { s.discrete with stopchain := chain } } =
      { s.inputNotice .stopchain chain.active with discrete := { s.discrete with stopchain := chain } } := by
    unfold State.inputNotice
    by_cases hposted : (Settings.input .stopchain s.settings).edge = false ∨ chain.active = true
    · rw [if_pos hposted, if_pos (by exact hposted)]; rfl
    · rw [if_neg hposted, if_neg (by exact hposted)]
  set w := s.inputNotice .stopchain chain.active with hw
  have hwd : w.discrete = s.discrete := by rw [hw, hframe]
  unfold State.deliverEdge
  simp only [hrole, hcommute]
  cases hopen : chain.active with
  | false =>
    have hraised := hnotice.trans (State.moves_raise .chainOpen (hnotice.inService hin))
    have hset := hraised.trans (State.moves_latched (hraised.activeAs hloader) .localChain chain)
    have hall := hset.trans (State.moves_latched_setLatch
      (s := { w.raise .chainOpen with discrete := { (w.raise .chainOpen).discrete with stopchain := chain } })
      (hraised.activeAs hloader) .localChain)
    simpa [State.loaderEdge, State.raise, hwd] using hall
  | true =>
    refine hnotice.trans ⟨.loader (hnotice.activeAs hloader) ?_ id (.refl _) (hpending := rfl) (hstartup := rfl)
      (hnow := le_rfl) (hholds := rfl) (hboard := rfl) (hrelay := ⟨rfl, rfl⟩) (hstops := by rw [hwd]; rfl), rfl, le_rfl,
      fun c hc => by rw [hwd] at hc; exact hc⟩
    rintro ⟨henable, hlow, -, hview, hwindow, hfree, hhold, hload⟩
    have hcap : w.envelope.cap = 0 := hlow (by
      rw [henable]
      simp [State.motionCondition, State.chainClosed, hwd, hedge hopen])
    exact ⟨rfl, fun _ => hcap, (Nat.le_of_eq hcap).trans (Nat.zero_le _), hview, hwindow, hfree, hhold, hload⟩

/-- R154, R155: an edge of STOPCHAIN to active has found it inactive. -/
theorem isEdge_active {i : Input} {before after : InputFilter} (h : isEdge i before after = true)
    (ha : after.active = true) : before.active = false := by
  simpa [isEdge, ha] using h

/-- R154, R155: where there is no edge the filtered state stands. -/
theorem active_of_not_isEdge {i : Input} {before after : InputFilter} (h : isEdge i before after = false) :
    after.active = before.active := by
  simp only [isEdge, Bool.or_eq_false_iff, decide_eq_false_iff_not, not_not] at h
  exact h.1.symm

/-- R153, R156: an edge of another input than STOPCHAIN aboard a loader posts its notice at most. -/
theorem State.moves_deliverEdge_other {s : State} (hloader : s.activeAs .loader = true) {i : Input}
    (hi : i ≠ .stopchain) (active : Bool) : s.Moves (s.deliverEdge i active) := by
  have hnotice := State.moves_inputNotice (State.inService_of_activeAs hloader) i active
  unfold State.deliverEdge
  simp only [(State.activeAs_iff.mp hloader).2]
  cases i with
  | stopchain => exact absurd rfl hi
  | seat | deadman | confirm => exact hnotice

theorem State.moves_deliverSampled_other {s : State} (hloader : s.activeAs .loader = true) {i : Input}
    (hi : i ≠ .stopchain) (before : Discrete) : s.Moves (s.deliverSampled before i) := by
  unfold State.deliverSampled
  dsimp only
  split
  · exact State.moves_deliverEdge_other hloader hi _
  · exact .refl s

/-- R153: aboard a loader STOPCHAIN alone is sampled. -/
theorem State.sampleInput_other {s : State} (hrole : s.startup.role = .loader) {i : Input} (hi : i ≠ .stopchain)
    (level : Bool) : s.sampleInput i level = s := by
  simp [State.sampleInput, isSampled, hrole, hi]

theorem State.moves_takeSample_loader {s : State} (hloader : s.activeAs .loader = true) (a b c d : Bool) :
    s.Moves (s.takeSample a b c d) := by
  have hrole := (State.activeAs_iff.mp hloader).2
  set chain := s.discrete.stopchain.sample (a != (s.settings.input .stopchain).inverted) with hchain
  have hsampled : s.sampleInput .stopchain a = { s with discrete := { s.discrete with stopchain := chain } } := by
    simp [State.sampleInput, isSampled, Discrete.filter, Discrete.setFilter, hchain]
  have hdelivered : s.Moves (State.deliverSampled s.discrete .stopchain
      { s with discrete := { s.discrete with stopchain := chain } }) := by
    unfold State.deliverSampled
    dsimp only
    split
    · next hedge => exact State.moves_chainEdge hloader chain (isEdge_active hedge)
    · next hedge =>
      exact State.moves_discrete (State.activeAs_iff.mp hloader).1 _ le_rfl (by rfl) (by rfl)
        (active_of_not_isEdge (i := .stopchain) (Bool.eq_false_iff.mpr hedge))
  have hothers {i : Input} (hi : i ≠ .stopchain) (level : Bool) :
      State.sampleInput i level { s with discrete := { s.discrete with stopchain := chain } } =
        { s with discrete := { s.discrete with stopchain := chain } } := State.sampleInput_other (by exact hrole) hi level
  unfold State.takeSample
  rw [hsampled, hothers (by decide), hothers (by decide), hothers (by decide)]
  have hseat := hdelivered.trans
    (State.moves_deliverSampled_other (hdelivered.activeAs hloader) (i := .seat) (by decide) s.discrete)
  have hdeadman := hseat.trans
    (State.moves_deliverSampled_other (hseat.activeAs hloader) (i := .deadman) (by decide) s.discrete)
  exact hdeadman.trans
    (State.moves_deliverSampled_other (hdeadman.activeAs hloader) (i := .confirm) (by decide) s.discrete)

theorem State.activeAs_of_role {s : State} (hactive : s.active = true) : s.activeAs s.startup.role = true :=
  State.activeAs_iff.mpr ⟨hactive, rfl⟩

theorem State.moves_takeSample {s : State} (hactive : s.active = true) (a b c d : Bool) :
    s.Moves (s.takeSample a b c d) := by
  cases hrole : s.startup.role with
  | chair => exact State.moves_takeSample_chair (State.activeAs_iff.mpr ⟨hactive, hrole⟩) a b c d
  | loader => exact State.moves_takeSample_loader (State.activeAs_iff.mpr ⟨hactive, hrole⟩) a b c d

/-- FILTERED_EDGE: an input that the role samples turns. -/
theorem State.moves_filteredEdge {s : State} (hactive : s.active = true) {i : Input} {after : InputFilter}
    (hsampled : isSampled s.startup.role i = true) (hedge : isEdge i (s.discrete.filter i) after = true) :
    s.Moves (State.deliverEdge i after.active { s with discrete := s.discrete.setFilter i after }) := by
  cases hrole : s.startup.role with
  | chair =>
    have hchair : s.activeAs .chair = true := State.activeAs_iff.mpr ⟨hactive, hrole⟩
    have hset := State.moves_chairDiscrete hchair (s.discrete.setFilter i after) (by simp)
    exact hset.trans (State.moves_deliverEdge_chair (hset.activeAs hchair) i after.active)
  | loader =>
    obtain rfl : i = .stopchain := by simpa [isSampled, hrole] using hsampled
    exact State.moves_chainEdge (State.activeAs_iff.mpr ⟨hactive, hrole⟩) after (isEdge_active hedge)

/-! ### A request by its row or by its bytes (R173 to R175) -/

/-- What carries out a request moves the state, when it is carried out in the role that the request belongs to. -/
def CarriesOut (kind : Byte) (role : RequestRole) (act : State → State × Answer) : Prop :=
  ∀ u : State, u.inService = true → (∀ r, role = some r → kind ≠ 0x01 → kind ≠ 0x02 → kind ≠ 0x07 →
    u.activeAs r = true) → u.Moves (act u).1

theorem CarriesOut.of_role {kind : Byte} {r : Role} {act : State → State × Answer}
    (h : ∀ u : State, u.activeAs r = true → u.Moves (act u).1)
    (hkind : kind ≠ 0x01 ∧ kind ≠ 0x02 ∧ kind ≠ 0x07 := by decide) : CarriesOut kind (some r) act :=
  fun u _ hrole => h u (hrole r rfl hkind.1 hkind.2.1 hkind.2.2)

theorem CarriesOut.of_common {kind : Byte} {act : State → State × Answer}
    (h : ∀ u : State, u.inService = true → u.Moves (act u).1) : CarriesOut kind none act :=
  fun u hin _ => h u hin

theorem CarriesOut.of_reading {kind : Byte} {role : RequestRole} {act : State → State × Answer}
    (h : ∀ u : State, (act u).1 = u) : CarriesOut kind role act :=
  fun u _ _ => by rw [h]; exact .refl u

theorem State.moves_takeAxes {s : State} (hchair : s.activeAs .chair = true) (steer : Byte) (travel : Half)
    (boom bucket : Byte) : s.Moves (s.takeAxes steer travel boom bucket).1 :=
  State.moves_chairRelay hchair _ ⟨rfl, rfl, rfl⟩

/-- Table 10-4: a kind in no row of the table spells no request. -/
theorem requestAct_unknown {kind : Byte} (h : kind ∉ requestCodes) (body : List Byte) : requestAct kind body = none := by
  obtain ⟨⟨n, hn⟩⟩ := kind
  have hnone : n ∉ requestCodes.map (·.toNat) := by
    simpa [requestCodes, BitVec.toNat_eq, ← BitVec.toNat_inj] using h
  clear h
  interval_cases n
  all_goals first | rfl | exact absurd (by decide) hnone

/-- Table 10-4: whatever a message spells moves the state. -/
theorem carriesOut_requestAct {kind : Byte} {body : List Byte} {role : RequestRole} {act : State → State × Answer}
    (h : requestAct kind body = some (role, act)) : CarriesOut kind role act := by
  by_cases hk : kind ∈ requestCodes
  · simp only [requestCodes, List.mem_cons, List.not_mem_nil, or_false] at hk
    rcases hk with rfl | rfl | rfl | rfl | rfl | rfl | rfl | rfl | rfl | rfl | rfl | rfl | rfl | rfl | rfl | rfl | rfl |
      rfl | rfl | rfl | rfl | rfl | rfl | rfl | rfl | rfl | rfl | rfl | rfl | rfl | rfl
    all_goals
      rcases body with _ | ⟨_, _ | ⟨_, _ | ⟨_, _ | ⟨_, _ | ⟨_, _ | ⟨_, _⟩⟩⟩⟩⟩⟩
      all_goals
        first
        | (cases h; done)
        | obtain ⟨rfl, rfl⟩ := Prod.mk.inj (Option.some.inj h)
    · exact .of_reading fun _ => rfl
    · exact .of_common fun _ hin => State.moves_readFlags hin _
    · exact .of_common fun _ hin => State.moves_setMask hin _
    · exact .of_common fun _ hin => State.moves_addCredit hin _
    · exact .of_common fun _ hin => State.moves_placeMark hin
    · exact .of_reading fun _ => rfl
    · exact .of_common fun _ hin => State.moves_askRestart hin _
    · exact .of_role fun _ h => State.moves_takeAxes h _ _ _ _
    · exact .of_role fun _ h => State.moves_claim h _ _
    · exact .of_role fun _ h => State.moves_setMode h _ _
    · exact .of_role fun _ h => State.moves_offer h _ _ _ _
    · exact .of_role fun _ h => State.moves_withdraw h _
    · exact .of_role fun _ h => State.moves_release h _
    · exact .of_role fun _ h => State.moves_seize h _ _
    · exact .of_role fun _ h => State.moves_onEntry _ (State.moves_setContinue h false)
    · exact .of_role fun _ h => State.moves_onEntry _ (State.moves_setContinue h true)
    · exact .of_role fun _ h => State.moves_answer fun _ => State.moves_joinStop h _
    · exact .of_role fun _ h => State.moves_answer fun _ => State.moves_joinStop h _
    · exact .of_role fun _ h => State.moves_clear h _
    · exact .of_role fun _ h => State.moves_acceptItem h _
    · exact .of_role fun _ h => State.moves_declineItem h _
    · exact .of_role fun _ h => State.moves_dismissItem h _
    · exact .of_role fun _ h => State.moves_standDown h
    · exact .of_role fun _ h => State.moves_standUp h
    · exact .of_role fun _ h => State.moves_readHolds h
    · exact .of_reading fun _ => rfl
    · exact .of_role fun _ h => State.moves_takeReport h _ _ _
    · exact .of_role fun _ h => State.moves_raiseAssist h _
    · exact .of_role fun _ h => State.moves_cancelAssist h
    · exact .of_role fun _ h => State.moves_setLatch h _
    · exact .of_reading fun _ => rfl
  · rw [requestAct_unknown hk] at h
    cases h

theorem State.moves_messageArrives (kind tag : Byte) (body : List Byte) (s : State) :
    s.Moves (s.messageArrives kind tag body) := by
  unfold State.messageArrives
  split
  · next hrow => exact State.moves_request kind tag true _ _ (carriesOut_requestAct hrow)
  · exact State.moves_request kind tag false _ _ fun u _ _ => .refl u

theorem State.moves_takeByte {s : State} (hin : s.inService = true) (b : Byte) : s.Moves (s.takeByte b) := by
  have hput (r : Receiver) : s.Moves { s with link := { s.link with receiver := r } } :=
    State.moves_link _ hin .of_same
  have hdiscard := State.moves_discardMessage hin
  unfold State.takeByte
  dsimp only
  split
  · split
    · exact hput _
    · exact .refl s
  · split
    · exact hput _
    · exact hdiscard
  · split
    · unfold State.judgeMessage
      split
      · exact (hput .hunt).trans (State.moves_messageArrives _ _ _ _)
      · exact hdiscard
    · exact hput _

theorem State.moves_llrxByte {s : State} (hin : s.inService = true) (b : Byte) (stop : Bool) :
    s.Moves (let t := if s.byteLate then s.discardMessage else s
      if stop then t.takeByte b else if t.spoils b then t.discardMessage else t) := by
  have hlate : s.Moves (if s.byteLate then s.discardMessage else s) := by
    split
    · exact State.moves_discardMessage hin
    · exact .refl s
  have htaken {u : State} (hu : u.inService = true) :
      u.Moves (if stop then u.takeByte b else if u.spoils b then u.discardMessage else u) := by
    split
    · exact State.moves_takeByte hu b
    · split
      · exact State.moves_discardMessage hu
      · exact .refl u
  exact hlate.trans (htaken (hlate.inService hin))

/-! ### The completion of a message (R174, R180, R183) -/

/-- R174, R183: what the completion of a message does to the Local Link before the next one is chosen. -/
theorem Link.steps_sent (what : TxWhat) (k : Link) : k.Steps (k.sent what) := by
  have hidle : k.Steps { k with tx := none } := .of_same
  unfold Link.sent
  cases what with
  | notice =>
    refine hidle.trans ?_
    dsimp only [Link.noticeSent]
    split
    · exact .of_same
    · split
      · exact .trans .of_same (Link.steps_raise _ _)
      · exact .of_same
  | response =>
    refine hidle.trans ?_
    dsimp only [Link.responseSent]
    split <;> exact .of_same
  | busy | record => exact hidle

end Sys2Proof.Machine
end

/-!
PROOFS. Restarts, loads and the activation (chapter 11): a part that is not active has its blocks at their restart values,
and what start-up changes keeps the invariants.
-/
section

namespace Sys2Proof.Machine

/-! ### A part that is not active -/

/-- R193: the blocks of the record, the tables and the lines stand at their restart values; the stop latch is free. -/
structure State.Blank (s : State) : Prop where
  record : s.record = {}
  monitor : s.monitor = {}
  envelope : s.envelope = {}
  relay : s.relay = {}
  holds : s.holds = {}
  board : s.board = {}
  discrete : s.discrete = { latch := s.discrete.latch }

/-- What is left of the invariant of motion in a part that is not active: no holder, no motion, no cap. -/
structure State.Still (s : State) : Prop where
  auth : s.record.auth = .free
  motion : s.discrete.motionEnable = false
  cap : s.envelope.cap = 0
  view : s.monitor.view = s.record.view
  window : s.monitor.window.length = 8

/-- R190, R194: a load or a power-on hold runs only while the condition is LOADING. -/
structure Startup.Ordered (u : Startup) : Prop where
  hold : u.hold.isSome = true → u.condition = .loading
  load : u.load ≠ .idle → u.condition = .loading

theorem State.RolesSound.blank {s : State} (hs : s.RolesSound) (h : s.active = false) : s.Blank := by
  obtain ⟨hblank, -⟩ := hs
  obtain ⟨h1, h2, h3, h4, h5, h6, h7⟩ := hblank h
  exact ⟨h1, h2, h3, h4, h5, h6, h7⟩

theorem State.RolesSound.ordered {s : State} (hs : s.RolesSound) : s.startup.Ordered :=
  ⟨hs.2.2.2.1, hs.2.2.2.2⟩

theorem State.RolesSound.latch {s : State} (hs : s.RolesSound) (h : s.startup.role = .chair) :
    s.discrete.latch = none := by
  obtain ⟨-, hchair, -⟩ := hs
  obtain ⟨-, -, -, -, -, -, -, -, -, hlatch⟩ := hchair h
  exact hlatch

theorem State.MotionSafe.ordered {s : State} (hs : s.MotionSafe) : s.startup.Ordered := by
  obtain ⟨-, -, -, -, -, -, hhold, hload⟩ := hs
  exact ⟨hhold, hload⟩

theorem State.MotionSafe.still {s : State} (hs : s.MotionSafe) (h : s.active = false) : s.Still := by
  obtain ⟨henable, hlow, -, hview, hwindow, hfree, -, -⟩ := hs
  have hmotion : s.discrete.motionEnable = false := by
    rw [henable]
    simp [State.motionCondition, State.activeAs, h]
  exact ⟨hfree h, hmotion, hlow hmotion, hview, hwindow⟩

theorem State.Blank.still {s : State} (h : s.Blank) : s.Still :=
  ⟨by rw [h.record], by rw [h.discrete], by rw [h.envelope], by rw [h.monitor, h.record]; rfl, by rw [h.monitor]; rfl⟩

theorem State.Still.motionSafe {s : State} (h : s.Still) (ho : s.startup.Ordered) : s.MotionSafe := by
  refine ⟨?_, fun _ => h.cap, by rw [h.cap]; exact Nat.zero_le _, h.view, h.window, fun _ => h.auth, ho.hold, ho.load⟩
  rw [h.motion]
  simp [State.motionCondition, h.auth, Authority.current?]

theorem State.Blank.rolesSound {s : State} (h : s.Blank) (ho : s.startup.Ordered)
    (hlatch : s.startup.role = .chair → s.discrete.latch = none) : s.RolesSound := by
  refine ⟨fun _ => ⟨h.record, h.monitor, h.envelope, h.relay, h.holds, h.board, h.discrete⟩, fun hrole => ?_, fun _ => ?_,
    ho.hold, ho.load⟩
  · exact ⟨by rw [h.record], by rw [h.record], by rw [h.record], h.monitor, h.envelope, by rw [h.relay], by rw [h.relay],
      by rw [h.relay], by rw [h.discrete], hlatch hrole⟩
  · exact ⟨h.holds, h.board, by rw [h.relay], by rw [h.relay], by rw [h.discrete]⟩

theorem State.Blank.tablesSound {s : State} (h : s.Blank) : s.TablesSound := by
  simp [State.tablesSound_iff, h.holds, h.board]
  exact ⟨by simp, rfl, by simp⟩

theorem State.Blank.bounded {s : State} (h : s.Blank) (hliu : s.liu.Bounded) (hlink : s.link.Bounded) : s.Bounded :=
  (State.bounded_iff s).mpr ⟨hliu, by simp [h.holds], by simp [h.board], by rw [h.discrete]; simp, hlink⟩

/-! ### What start-up obeys -/

/-- What a command of start-up keeps to. -/
structure Starts (c : Instr) (s t : State) : Prop where
  pending : t.pending = s.pending
  now : s.now ≤ t.now
  attn : s.AttnSound → t.AttnSound
  bounded : s.Bounded → t.Bounded
  tables : s.TablesSound → t.TablesSound
  roles : s.RolesSound → t.RolesSound
  motion : s.MotionSafe → t.MotionSafe
  epoch : t.record.epoch = s.record.epoch ∨
    (t.record.auth = .free ∧ t.record.epoch = 0 ∧ t.record.lastGrant = none)
  cap : t.envelope.cap ≤ s.envelope.cap
  latch : ∀ cause, s.discrete.latch = some cause →
    t.discrete.latch = some cause ∨ c = .powerOn ∨ c = .supplyFall ∨
    (t.discrete.latch = none ∧ t.startup.role = .chair ∧
      ∃ straps : Straps, straps.role = false ∧
        (c = .powerOnHoldExpiry straps ∨ c = .resetRise straps ∨ c = .messageSent straps))

theorem Starts.obeys {c : Instr} {s t : State} (h : Starts c s t) : Obeys c s t where
  pending := h.pending
  now := h.now
  attn := h.attn
  bounded := h.bounded
  tables := h.tables
  roles := h.roles
  motion := h.motion
  epoch := h.epoch.imp_right .inl
  cap := .inl h.cap
  latch cause hc := (h.latch cause hc).imp_right (Or.imp_right (Or.imp_right .inr))

/-- A move before start-up. -/
theorem Starts.after {c : Instr} {s t u : State} (h : s.Moves t) (h' : Starts c t u) : Starts c s u where
  pending := h'.pending.trans h.pending
  now := h.now.trans h'.now
  attn hs := h'.attn (h.attn hs)
  bounded hs := h'.bounded (h.bounded hs)
  tables hs := h'.tables (h.tables hs)
  roles hs := h'.roles (h.roles hs)
  motion hs := h'.motion (h.motion hs)
  epoch := h'.epoch.imp_left fun he => he.trans h.epoch
  cap := h'.cap.trans h.cap
  latch cause hc := h'.latch cause (h.latch cause hc)

theorem State.Moves.starts {s t : State} (h : s.Moves t) (c : Instr) : Starts c s t where
  pending := h.pending
  now := h.now
  attn := h.attn
  bounded := h.bounded
  tables := h.tables
  roles := h.roles
  motion := h.motion
  epoch := .inl h.epoch
  cap := h.cap
  latch cause hc := .inl (h.latch cause hc)

theorem Starts.trans {c : Instr} {s t u : State} (h : Starts c s t) (h' : Starts c t u)
    (hlatch : t.discrete.latch = s.discrete.latch) (hrecord : u.record = t.record) : Starts c s u where
  pending := h'.pending.trans h.pending
  now := h.now.trans h'.now
  attn hs := h'.attn (h.attn hs)
  bounded hs := h'.bounded (h.bounded hs)
  tables hs := h'.tables (h.tables hs)
  roles hs := h'.roles (h.roles hs)
  motion hs := h'.motion (h.motion hs)
  epoch := by rw [hrecord]; exact h.epoch
  cap := h'.cap.trans h.cap
  latch cause hc := h'.latch cause (hlatch.trans hc)

/-- R193, R194: a restart of the blocks. -/
theorem Starts.of_blank {c : Instr} {s t : State} (hblank : t.Blank) (hliu : t.liu.Bounded) (hlink : t.link.Bounded)
    (hattn : s.AttnSound → t.AttnSound) (hordered : s.startup.Ordered → t.startup.Ordered)
    (hchair : s.RolesSound → t.startup.role = .chair → t.discrete.latch = none)
    (hlatch : t.discrete.latch = s.discrete.latch ∨ c = .powerOn ∨ c = .supplyFall)
    (hpending : t.pending = s.pending := by rfl) (hnow : t.now = s.now := by rfl) : Starts c s t where
  pending := hpending
  now := hnow.ge
  attn := hattn
  bounded _ := hblank.bounded hliu hlink
  tables _ := hblank.tablesSound
  roles hs := hblank.rolesSound (hordered hs.ordered) (hchair hs)
  motion hs := hblank.still.motionSafe (hordered hs.ordered)
  epoch := .inr (by rw [hblank.record]; exact ⟨rfl, rfl, rfl⟩)
  cap := by rw [hblank.envelope]; exact Nat.zero_le _
  latch cause hc := by
    rcases hlatch with h | h | h
    · exact .inl (h.trans hc)
    · exact .inr (.inl h)
    · exact .inr (.inr (.inl h))

/-- R190, R194: in a part that is not active, a change of the start-up block, with the latch that a load may clear and the
Local Link. -/
theorem Starts.of_startup {c : Instr} {s : State} (now : Nat) (u : Startup) (l : Option StopCause) (k : Link)
    (hnow : s.now ≤ now) (hidle : s.startup.Ordered → s.active = false)
    (hordered : s.startup.Ordered → u.Ordered)
    (hattn : s.AttnSound → k.attn = (u.powered && !u.resetLow && k.attention))
    (hlink : s.link.Bounded → k.Bounded)
    (hchair : s.RolesSound → u.role = .chair → l = none)
    (hlatch : l = s.discrete.latch ∨ (l = none ∧ u.role = .chair ∧ ∃ straps : Straps, straps.role = false ∧
        (c = .powerOnHoldExpiry straps ∨ c = .resetRise straps ∨ c = .messageSent straps))) :
    Starts c s { s with now := now, startup := u, discrete := { s.discrete with latch := l }, link := k } where
  pending := rfl
  now := hnow
  attn := hattn
  bounded hs := by
    obtain ⟨hq, hentries, hitems, hlist, hk⟩ := (State.bounded_iff s).mp hs
    exact (State.bounded_iff _).mpr ⟨hq, hentries, hitems, hlist, hlink hk⟩
  tables := id
  roles hs := by
    have hblank := hs.blank (hidle hs.ordered)
    exact State.Blank.rolesSound
      ⟨hblank.record, hblank.monitor, hblank.envelope, hblank.relay, hblank.holds, hblank.board,
        by simp only; rw [hblank.discrete]⟩ (hordered hs.ordered) (hchair hs)
  motion hs := by
    have hstill := hs.still (hidle hs.ordered)
    exact State.Still.motionSafe ⟨hstill.auth, hstill.motion, hstill.cap, hstill.view, hstill.window⟩
      (hordered hs.ordered)
  epoch := .inl rfl
  cap := le_rfl
  latch cause hc := by
    rcases hlatch with h | h
    · exact .inl (h.trans hc)
    · exact .inr (.inr (.inr h))

/-! ### The pieces of start-up -/

theorem State.inService_iff {s : State} :
    s.inService = true ↔ s.startup.powered = true ∧ s.startup.resetLow = false ∧ s.startup.hold = none := by
  simp [State.inService, and_assoc]

theorem State.active_of_condition {s : State} (h : s.startup.condition ≠ .running) : s.active = false := by
  simp [State.active, h]

theorem State.active_of_not_inService {s : State} (h : s.inService = false) : s.active = false := by
  simp [State.active, h]

/-- R190: while a load runs the part is not active. -/
theorem State.active_of_load {s : State} (h : s.startup.load ≠ .idle) (ho : s.startup.Ordered) : s.active = false :=
  State.active_of_condition (by rw [ho.load h]; decide)

theorem State.restartBlocks_blank (s : State) : s.restartBlocks.Blank := ⟨rfl, rfl, rfl, rfl, rfl, rfl, rfl⟩

theorem State.enterLoading_blank (s : State) : s.enterLoading.Blank := ⟨rfl, rfl, rfl, rfl, rfl, rfl, rfl⟩

theorem Liu.restart_bounded (receives : Bool) (q : Liu) : (q.restart receives).Bounded := by
  simp [Liu.restart, Liu.Bounded]

theorem Startup.ordered_loading (u : Startup) (h : u.condition = .loading) : u.Ordered := ⟨fun _ => h, fun _ => h⟩

/-- R189, R190: what the beginning of a load leaves of the state. -/
theorem State.beginLoad_eq (straps : Straps) (s : State) :
    s.beginLoad straps =
      { s with
        startup := { s.startup with
          condition := if straps.station = 0 then .faultHold else .loading
          role := if straps.role then .loader else .chair
          station := straps.station.toNat
          load := if straps.station = 0 then .idle else .readingStatus 0 }
        discrete := { s.discrete with latch := if straps.role then s.discrete.latch else none }
        link := if straps.station = 0 then s.link.raise .configFault else s.link } := by
  unfold State.beginLoad
  dsimp only
  split <;> rfl

/-- R189, R190: a load that begins once the part is powered, not held by RESET and in no hold. -/
theorem State.starts_beginLoad {c : Instr} {s : State} (straps : Straps) (now : Nat) (u : Startup) (k : Link)
    (hnow : s.now ≤ now) (hin : u.powered = true ∧ u.resetLow = false ∧ u.hold = none)
    (hidle : s.startup.Ordered → s.active = false) (hattn : s.AttnSound → k.attn = k.attention)
    (hlink : s.link.Bounded → k.Bounded)
    (hc : c = .powerOnHoldExpiry straps ∨ c = .resetRise straps ∨ c = .messageSent straps) :
    Starts c s (State.beginLoad straps { s with now := now, startup := u, link := k }) := by
  obtain ⟨hpowered, hreset, hhold⟩ := hin
  rw [State.beginLoad_eq]
  refine .of_startup now _ _ _ hnow hidle (fun _ => ?_) (fun hs => ?_) (fun hk => ?_) (fun hs => ?_) ?_
  · by_cases h0 : straps.station = 0
    · simp only [h0, if_true]
      exact ⟨by simp [hhold], by simp⟩
    · exact Startup.ordered_loading _ (if_neg h0)
  · by_cases h0 : straps.station = 0
    · simp only [h0, if_true, hpowered, hreset]
      rfl
    · simp only [h0, if_false, hpowered, hreset]
      exact hattn hs
  · by_cases h0 : straps.station = 0
    · simp only [h0, if_true]; exact hlink hk
    · simp only [h0, if_false]; exact hlink hk
  · cases hr : straps.role <;> simp
  · cases hr : straps.role
    · exact .inr ⟨rfl, rfl, straps, hr, hc⟩
    · exact .inl rfl

/-- R191: a load that fails while it runs. -/
theorem State.starts_loadFails {c : Instr} {s : State} (hin : s.inService = true) (hload : s.startup.load ≠ .idle) :
    Starts c s s.loadFails := by
  obtain ⟨hpowered, hreset, hhold⟩ := State.inService_iff.mp hin
  refine .of_startup s.now { s.startup with condition := .faultHold, load := .idle } s.discrete.latch
    (s.link.raise .configFault) le_rfl (State.active_of_load hload) (fun _ => ⟨by simp [hhold], by simp⟩)
    (fun _ => by simp only [hpowered, hreset]; rfl) id (fun hs => hs.latch) (.inl rfl)

/-- R190: a step of a load that goes on. -/
theorem State.starts_loadStep {c : Instr} {s : State} (now : Nat) (hnow : s.now ≤ now) (step : LoadStep)
    (hload : s.startup.load ≠ .idle) :
    Starts c s { s with now := now, startup := { s.startup with load := step } } :=
  .of_startup now { s.startup with load := step } s.discrete.latch s.link hnow (State.active_of_load hload)
    (fun ho => Startup.ordered_loading _ (ho.load hload)) id id (fun hs => hs.latch) (.inl rfl)

/-- R21: the activation of an active part with its blocks as they are. -/
theorem State.moves_activate {s : State} (hactive : s.active = true) : s.Moves s.activate := by
  have hlistening : s.Moves { s with
      liu := s.liu.activate s.now
      discrete := { s.discrete with nextSample := some (s.now + Config.samplePeriod) } } := by
    have hliu : s.Moves { s with liu := s.liu.activate s.now } := State.moves_liu _ id
    exact hliu.trans (State.moves_discrete (hliu.active hactive) _ le_rfl)
  unfold State.activate
  cases hrole : s.startup.role with
  | chair =>
    have hchair : s.activeAs .chair = true := State.activeAs_iff.mpr ⟨hactive, hrole⟩
    exact hlistening.trans (State.moves_chairRelay (hlistening.activeAs hchair) _ ⟨rfl, rfl, rfl⟩)
  | loader =>
    have hloader : s.activeAs .loader = true := State.activeAs_iff.mpr ⟨hactive, hrole⟩
    dsimp only [State.activateLoader]
    set u : State := { s with
      liu := s.liu.activate s.now
      discrete := { s.discrete with nextSample := some (s.now + Config.samplePeriod) } } with hu
    have htimed : s.Moves { u with envelope := { u.envelope with timer := some (u.now + u.periods 1) } } :=
      hlistening.trans (State.moves_loader (hlistening.activeAs hloader) (.refl _))
    have hposted := htimed.trans (State.moves_announce (State.inService_of_activeAs (htimed.activeAs hloader)))
    split
    · exact hposted.trans (State.moves_raise _ (State.inService_of_activeAs (hposted.activeAs hloader)))
    · exact hposted

theorem State.activate_record (s : State) : s.activate.record = s.record := by
  unfold State.activate State.activateLoader State.activateChair
  cases s.startup.role
  · rfl
  · dsimp only
    split <;> simp [State.raise]

/-- R193: a soft restart. -/
theorem State.starts_softRestart {c : Instr} {s : State} (hin : s.inService = true) : Starts c s s.softRestart := by
  obtain ⟨hpowered, hreset, hhold⟩ := State.inService_iff.mp hin
  have hrestart : Starts c s s.restartBlocks := by
    refine .of_blank s.restartBlocks_blank (Liu.restart_bounded _ _) ?_ (fun _ => ?_) id (fun hs => hs.latch) (.inl rfl)
    · simp [State.restartBlocks, Link.judgeAttn, Link.Bounded]
    · show Link.attention _ = _
      simp [State.restartBlocks, hpowered, hreset, Link.judgeAttn, Link.attention]
  unfold State.softRestart
  dsimp only
  split
  · next hrunning =>
    have hactive : s.restartBlocks.active = true := by
      have hin' : s.restartBlocks.inService = true := hin
      simp [State.active, hin', hrunning]
    exact hrestart.trans ((State.moves_activate hactive).starts c) rfl (State.activate_record _)
  · exact hrestart

/-- R190, R193: a full restart. -/
theorem State.starts_fullRestart {s : State} (hin : s.inService = true) (straps : Straps) :
    Starts (.messageSent straps) s (s.enterLoading.beginLoad straps) := by
  obtain ⟨hpowered, hreset, hhold⟩ := State.inService_iff.mp hin
  have hrestart : Starts (.messageSent straps) s s.enterLoading := by
    refine .of_blank s.enterLoading_blank (Liu.restart_bounded _ _) ?_ (fun _ => ?_)
      (fun _ => Startup.ordered_loading _ rfl) (fun hs => hs.latch) (.inl rfl)
    · simp [State.enterLoading, State.restartBlocks, Link.judgeAttn, Link.Bounded]
    · show Link.attention _ = _
      simp [State.enterLoading, State.restartBlocks, hpowered, hreset, Link.judgeAttn, Link.attention]
  have hbegin := State.starts_beginLoad (c := .messageSent straps) (s := s.enterLoading) straps s.enterLoading.now
    s.enterLoading.startup s.enterLoading.link le_rfl ⟨hpowered, hreset, hhold⟩
    (fun _ => State.active_of_condition (by simp [State.enterLoading]))
    (fun _ => by simp [State.enterLoading, State.restartBlocks, Link.judgeAttn, Link.attention]) id (.inr (.inr rfl))
  exact hrestart.trans hbegin rfl (by rw [State.beginLoad_eq])

end Sys2Proof.Machine
end

/-!
PROOFS. Every command is answered and obeys; with it the five invariants, the rules of the epoch, the cap and the stop
latch, and the step.
-/
section

namespace Sys2Proof.Machine

/-! ### The commands of start-up -/

/-- R161, R188, R194: a power-on. -/
theorem State.starts_powerOn (s : State) : Starts .powerOn s s.powerOn := by
  refine .of_blank ⟨rfl, rfl, rfl, rfl, rfl, rfl, rfl⟩ (Liu.restart_bounded _ _) ?_ (fun _ => ?_)
    (fun _ => Startup.ordered_loading _ rfl) (fun _ _ => rfl) (.inr (.inl rfl))
  · unfold State.powerOn State.settleAttn
    dsimp only
    split <;> simp [State.enterLoading, State.restartBlocks, Link.judgeAttn, Link.Bounded]
  · cases hreset : s.startup.resetLow <;>
      simp [State.AttnSound, State.powerOn, State.settleAttn, State.enterLoading, State.restartBlocks, Link.judgeAttn,
        Link.attention, hreset]

/-- R194: the end of a power-on hold. -/
theorem State.starts_holdExpiry {s : State} (straps : Straps) {due : Nat} (hpowered : s.startup.powered = true)
    (hhold : s.startup.hold = some due) :
    Starts (.powerOnHoldExpiry straps) s
      (let t := s.reach due
       let t := { t with startup := { t.startup with hold := none } }
       if t.startup.resetLow then t else t.beginLoad straps) := by
  have hidle : s.active = false := State.active_of_not_inService (by simp [State.inService, hhold])
  have hloading (ho : s.startup.Ordered) : s.startup.condition = .loading := ho.hold (by simp [hhold])
  dsimp only
  split
  · exact .of_startup (max s.now due) { s.startup with hold := none } s.discrete.latch s.link (Nat.le_max_left _ _)
      (fun _ => hidle) (fun ho => Startup.ordered_loading _ (hloading ho)) id id (fun hs => hs.latch) (.inl rfl)
  · next hreset =>
    have hreset' : s.startup.resetLow = false := by simpa using hreset
    refine State.starts_beginLoad straps (max s.now due) { s.startup with hold := none } s.link (Nat.le_max_left _ _)
      ⟨hpowered, hreset', rfl⟩ (fun _ => hidle) (fun hs => ?_) id (.inl rfl)
    simpa [State.AttnSound, hpowered, hreset'] using hs

/-- R194: a fall of the supply. -/
theorem State.starts_supplyFall (s : State) :
    Starts .supplyFall s
      (let t := State.enterLoading { s with startup := { s.startup with powered := false, hold := none } }
       { t with discrete := { t.discrete with latch := none }, link := {} }) :=
  .of_blank ⟨rfl, rfl, rfl, rfl, rfl, rfl, rfl⟩ (Liu.restart_bounded _ _) (by simp [Link.Bounded]) (fun _ => rfl)
    (fun _ => Startup.ordered_loading _ rfl) (fun _ _ => rfl) (.inr (.inr rfl))

/-- R160, R194: a RESET of at least 10 µs. -/
theorem State.starts_resetFall {c : Instr} (s : State) :
    Starts c s
      (let t := { s with startup := { s.startup with resetLow := true } }
       if s.startup.powered then t.enterLoading.settleAttn else t) := by
  dsimp only
  split
  · refine .of_blank ⟨rfl, rfl, rfl, rfl, rfl, rfl, rfl⟩ (Liu.restart_bounded _ _) ?_ (fun _ => ?_)
      (fun _ => Startup.ordered_loading _ rfl) (fun hs => hs.latch) (.inl rfl)
    · simp [State.settleAttn, State.enterLoading, State.restartBlocks, Link.judgeAttn, Link.Bounded]
    · simp [State.AttnSound, State.settleAttn, State.enterLoading, State.restartBlocks]
  · next hdown =>
    have hpowered : s.startup.powered = false := by simpa using hdown
    refine .of_startup s.now { s.startup with resetLow := true } s.discrete.latch s.link le_rfl
      (fun _ => State.active_of_not_inService (by simp [State.inService, hpowered])) (fun ho => ⟨ho.hold, ho.load⟩)
      (fun hs => ?_) id (fun hs => hs.latch) (.inl rfl)
    simpa [State.AttnSound, hpowered] using hs

/-- R160, R194: the rise of RESET. -/
theorem State.starts_resetRise {s : State} (straps : Straps) (hlow : s.startup.resetLow = true) :
    Starts (.resetRise straps) s
      (let t := { s with startup := { s.startup with resetLow := false } }
       if s.startup.powered then
         if s.startup.hold.isSome then t.settleAttn else t.settleAttn.beginLoad straps
       else t) := by
  have hidle : s.active = false := State.active_of_not_inService (by simp [State.inService, hlow])
  dsimp only
  split
  · next hpowered =>
    split
    · exact .of_startup s.now { s.startup with resetLow := false } s.discrete.latch s.link.judgeAttn le_rfl
        (fun _ => hidle) (fun ho => ⟨ho.hold, ho.load⟩) (fun _ => by simp [hpowered, Link.judgeAttn, Link.attention]) id
        (fun hs => hs.latch) (.inl rfl)
    · next hhold =>
      exact State.starts_beginLoad straps s.now { s.startup with resetLow := false } s.link.judgeAttn le_rfl
        ⟨hpowered, rfl, by simpa using hhold⟩ (fun _ => hidle) (fun _ => rfl) id (.inr (.inl rfl))
  · next hdown =>
    have hpowered : s.startup.powered = false := by simpa using hdown
    refine .of_startup s.now { s.startup with resetLow := false } s.discrete.latch s.link le_rfl (fun _ => hidle)
      (fun ho => ⟨ho.hold, ho.load⟩) (fun hs => ?_) id (fun hs => hs.latch) (.inl rfl)
    simpa [State.AttnSound, hpowered] using hs

/-- R190, R192: a load that succeeds. -/
theorem State.starts_loadSucceeds {c : Instr} {s : State} (block : List Byte) (hin : s.inService = true)
    (hload : s.startup.load ≠ .idle) : Starts c s (s.loadSucceeds block) := by
  obtain ⟨hpowered, hreset, hhold⟩ := State.inService_iff.mp hin
  have hrunning : Starts c s { s with startup := { s.startup with
      settings := decodeSettings s.startup.role block s.startup.settings, condition := .running, load := .idle } } :=
    .of_startup s.now _ s.discrete.latch s.link le_rfl (State.active_of_load hload)
      (fun _ => ⟨by simp [hhold], by simp⟩) id id (fun hs => hs.latch) (.inl rfl)
  have hactive : State.active { s with startup := { s.startup with
      settings := decodeSettings s.startup.role block s.startup.settings, condition := .running, load := .idle } } = true := by
    simp [State.active, State.inService, hpowered, hreset, hhold]
  exact hrunning.trans ((State.moves_activate hactive).starts c) rfl (State.activate_record _)

/-- R174, R178, R180: the completion of a message, with the restart that may begin. -/
theorem State.starts_messageSent {s : State} (straps : Straps) (x : Transmission) (hin : s.inService = true) :
    Starts (.messageSent straps) s (s.messageSent straps x) := by
  have hreach := s.moves_reach x.endsAt
  have hsent := hreach.trans (State.moves_link _ (hreach.inService hin) (Link.steps_sent x.what (s.reach x.endsAt).link))
  have hin' := hsent.inService hin
  unfold State.messageSent
  dsimp only
  split
  · next r _ _ =>
    cases r with
    | soft => exact .after hsent (State.starts_softRestart hin')
    | full => exact .after hsent (State.starts_fullRestart hin' straps)
  · exact (hsent.trans (State.moves_link _ hin' (Link.steps_start _ _))).starts _

/-! ### Every command obeys -/

/-- A command that is answered by a next state obeys. -/
def Answered (c : Instr) (s : State) : Prop := ∃ t, exec c s = .next t ∧ Obeys c s t

theorem State.Moves.answered {c : Instr} {s t : State} (h : s.Moves t) (hexec : exec c s = .next t) : Answered c s :=
  ⟨t, hexec, h.obeys c⟩

theorem Starts.answered {c : Instr} {s t : State} (h : Starts c s t) (hexec : exec c s = .next t) : Answered c s :=
  ⟨t, hexec, h.obeys⟩

/-- A request row of Table 10-4. -/
theorem CarriesOut.answered {c : Instr} {s : State} {kind tag : Byte} {role : RequestRole} {act : State → State × Answer}
    (h : CarriesOut kind role act) {fits : Bool} (hexec : exec c s = .next (s.request kind tag fits role act)) :
    Answered c s :=
  (State.moves_request kind tag fits role act h).answered hexec

/-- R173, R189, R190: the commands that a part in service answers alone. -/
theorem answered_of_service {c : Instr} {s t : State} (hexec : exec c s = .next (if s.inService then t else s))
    (h : s.inService = true → Obeys c s t) : Answered c s := by
  cases hin : s.inService with
  | false => exact ⟨s, by simp [hexec, hin], (State.Moves.refl s).obeys c⟩
  | true => exact ⟨t, by simp [hexec, hin], h hin⟩

theorem answered_lcdRise (s : State) : Answered .lcdRise s := by
  by_cases hlcd : s.liu.lcd = true
  · exact (State.Moves.refl s).answered (by show execLcdRise s = _; simp [execLcdRise, hlcd])
  · exact s.moves_lcdRise.answered (by show execLcdRise s = _; simp [execLcdRise, hlcd])

theorem answered_receptionComplete (s : State) : Answered .receptionComplete s := by
  exact ⟨_, rfl, State.obeys_receptionComplete s _ rfl⟩

theorem answered_gapMet (s : State) : Answered .gapMet s := by
  refine ⟨_, rfl, State.Moves.obeys ?_ _⟩
  split
  · exact (s.moves_reach _).trans (State.moves_liu _ fun hq => hq.enterWait _ _)
  · exact .refl s

theorem answered_waitExpiry (s : State) : Answered .waitExpiry s := by
  refine ⟨_, rfl, State.Moves.obeys ?_ _⟩
  split
  · exact (s.moves_reach _).trans (State.moves_liu _ fun hq => hq.beginSending _ _)
  · exact .refl s

theorem answered_keyUpLeadExpiry (s : State) : Answered .keyUpLeadExpiry s := by
  refine ⟨_, rfl, State.Moves.obeys ?_ _⟩
  split
  · split
    · exact .refl s
    · exact (s.moves_reach _).trans (State.moves_liu _ id)
  · exact .refl s

theorem answered_sendingComplete (s : State) : Answered .sendingComplete s := by
  refine ⟨_, rfl, State.Moves.obeys ?_ _⟩
  split
  · next hactive _ =>
    split
    · exact State.moves_sendingDone hactive _
    · exact .refl s
  · exact .refl s

theorem answered_lineBlockedExpiry (s : State) : Answered .lineBlockedExpiry s := by
  refine ⟨_, rfl, State.Moves.obeys ?_ _⟩
  split
  · next hactive _ =>
    have hreach := s.moves_reach
    exact ((hreach _).trans (State.moves_raise _ ((hreach _).inService (State.inService_of_active hactive)))).trans
      (State.moves_liu _ id)
  · exact .refl s

/-- Every command of the table is answered by a next state and obeys. -/
theorem exec_obeys (c : Instr) (s : State) : Answered c s := by
  have hreach := s.moves_reach
  cases c with
  | lcdRise => exact answered_lcdRise s
  | receptionComplete => exact answered_receptionComplete s
  | gapMet => exact answered_gapMet s
  | waitExpiry => exact answered_waitExpiry s
  | keyUpLeadExpiry => exact answered_keyUpLeadExpiry s
  | sendingComplete => exact answered_sendingComplete s
  | lineBlockedExpiry => exact answered_lineBlockedExpiry s
  | transferDeadlineExpiry =>
    refine ⟨_, rfl, State.Moves.obeys ?_ _⟩
    split
    · next hloader _ => exact (hreach _).trans (State.moves_changeState ((hreach _).activeAs hloader) _)
    · exact .refl s
  | reclaimDeadlineExpiry =>
    refine ⟨_, rfl, ?_⟩
    split
    · next hloader _ => exact (hreach _).obeys_makeGrant rfl hloader none _
    · exact (State.Moves.refl s).obeys _
  | assistRepeatExpiry =>
    refine ⟨_, rfl, State.Moves.obeys ?_ _⟩
    split
    · next hloader hauth =>
      exact (hreach _).trans (State.moves_assistRepeat ((hreach _).activeAs hloader) hauth _)
    · exact .refl s
  | statusTimerExpiry =>
    refine ⟨_, rfl, State.Moves.obeys ?_ _⟩
    split
    · next hloader _ =>
      have hactive := (State.activeAs_iff.mp hloader).1
      exact ((hreach _).trans (State.moves_statusTimer ((hreach _).active hactive) none)).trans (State.moves_sendStatus _)
    · exact .refl s
  | lapseTimerExpiry =>
    refine ⟨_, rfl, State.Moves.obeys ?_ _⟩
    split
    · next due hloader _ =>
      have hdue := (hreach due).trans (State.moves_loader (t := { s.reach due with
        monitor := { s.monitor with lapse := none } }) ((hreach due).activeAs hloader) (.refl _))
      exact hdue.trans (State.moves_lapse (hdue.activeAs hloader))
    · exact .refl s
  | envelopeIntervalExpiry =>
    refine ⟨_, rfl, ?_⟩
    split
    · next hloader _ => exact State.obeys_envelopeInterval hloader _
    · exact (State.Moves.refl s).obeys _
  | indicatorFlash =>
    refine ⟨_, rfl, State.Moves.obeys ?_ _⟩
    split
    · next hloader _ =>
      exact (hreach _).trans (State.moves_loader ((hreach _).activeAs hloader) (.refl _))
    · exact .refl s
  | answerDeadlineExpiry loader =>
    refine ⟨_, rfl, State.Moves.obeys ?_ _⟩
    split
    · next hchair _ =>
      split
      · exact State.moves_answerDeadline hchair _ _
      · exact .refl s
    · exact .refl s
  | offerDeadlineExpiry loader =>
    refine ⟨_, rfl, State.Moves.obeys ?_ _⟩
    split
    · next hchair _ =>
      split
      · split
        · exact State.moves_offerDeadline hchair _ _ _
        · exact .refl s
      all_goals exact .refl s
    · exact .refl s
  | absenceDeadlineExpiry loader =>
    refine ⟨_, rfl, State.Moves.obeys ?_ _⟩
    split
    · next hchair _ =>
      split
      · exact State.moves_absenceDeadline hchair _ _
      · exact .refl s
    · exact .refl s
  | itemDeadlineExpiry loader =>
    refine ⟨_, rfl, State.Moves.obeys ?_ _⟩
    split
    · next hchair _ => exact (hreach _).trans (State.moves_removeItem ((hreach _).activeAs hchair) _ _)
    · exact .refl s
  | gestureWindowExpiry =>
    refine ⟨_, rfl, State.Moves.obeys ?_ _⟩
    split
    · next hchair _ => exact (hreach _).trans (State.moves_failGesture ((hreach _).activeAs hchair) _)
    · exact .refl s
  | driveIntervalExpiry =>
    refine ⟨_, rfl, State.Moves.obeys ?_ _⟩
    split
    · next hchair _ => exact State.moves_driveInterval hchair _
    · exact .refl s
  | superviseDeadlineExpiry loader =>
    refine ⟨_, rfl, State.Moves.obeys ?_ _⟩
    split
    · next hchair _ => exact (hreach _).trans (State.moves_giveSupervise ((hreach _).activeAs hchair) _)
    · exact .refl s
  | stopListDue =>
    refine ⟨_, rfl, State.Moves.obeys ?_ _⟩
    split
    · exact (hreach _).trans (State.moves_giveStop _)
    · exact .refl s
  | filteredEdge input active =>
    refine ⟨_, rfl, State.Moves.obeys ?_ _⟩
    dsimp only
    split
    · next hturns =>
      simp only [Bool.and_eq_true] at hturns
      obtain ⟨⟨hactive, hsampled⟩, hedge⟩ := hturns
      exact State.moves_filteredEdge (after := { active, settled := true, run := some ⟨active, 3⟩ }) hactive hsampled hedge
    · exact .refl s
  | inputSample stopchain in2 in3 in4 =>
    refine ⟨_, rfl, State.Moves.obeys ?_ _⟩
    split
    · next due hactive _ =>
      have htimed := (hreach due).trans (State.moves_discrete ((hreach due).active hactive)
        { s.discrete with nextSample := some ((s.reach due).now + Config.samplePeriod) } le_rfl)
      exact htimed.trans (State.moves_takeSample (htimed.active hactive) _ _ _ _)
    · exact .refl s
  | lrxdByteReceived byte =>
    refine ⟨_, rfl, State.Moves.obeys ?_ _⟩
    split
    · refine State.moves_liu _ fun ⟨hbuffer, hrest⟩ => ⟨?_, hrest⟩
      dsimp only
      split
      · next hroom => simp only [Config.rxBufferSize] at hroom; simp; omega
      · exact hbuffer
    · exact .refl s
  | localMessageDiscarded => exact answered_of_service rfl fun hin => (State.moves_discardMessage hin).obeys _
  | interByteTimeout =>
    refine ⟨_, rfl, State.Moves.obeys ?_ _⟩
    split
    · next hin _ => exact (hreach _).trans (State.moves_discardMessage ((hreach _).inService hin))
    · exact .refl s
  | requestWhileBusy kind tag =>
    refine ⟨_, rfl, State.Moves.obeys ?_ _⟩
    split
    · next hbusy =>
      have hin : s.inService = true := (Bool.and_eq_true_iff.mp hbusy).1
      exact (State.moves_link _ hin .of_same).trans (State.moves_answerBusy kind tag hin)
    · exact .refl s
  | llrxByteReceived byte stop => exact answered_of_service rfl fun hin => (State.moves_llrxByte hin byte stop).obeys _
  | unknownRequestKind kind tag => exact CarriesOut.answered (.of_reading fun _ => rfl) rfl
  | readIdentity tag => exact CarriesOut.answered (carriesOut_requestAct (body := []) rfl) rfl
  | readCounters tag => exact CarriesOut.answered (carriesOut_requestAct (body := []) rfl) rfl
  | readFlags tag flags => exact CarriesOut.answered (.of_common fun _ hin => State.moves_readFlags hin _) rfl
  | setMask tag mask => exact CarriesOut.answered (.of_common fun _ hin => State.moves_setMask hin _) rfl
  | addCredit tag n => exact CarriesOut.answered (carriesOut_requestAct (body := [n]) rfl) rfl
  | mark tag => exact CarriesOut.answered (carriesOut_requestAct (body := []) rfl) rfl
  | restartSoft tag => exact CarriesOut.answered (carriesOut_requestAct (body := [1]) rfl) rfl
  | restartFull tag => exact CarriesOut.answered (carriesOut_requestAct (body := [2]) rfl) rfl
  | axes tag steer travel boom bucket =>
    exact CarriesOut.answered (.of_role fun _ h => State.moves_takeAxes h _ _ _ _) rfl
  | claim tag loader mode => exact CarriesOut.answered (carriesOut_requestAct (body := [loader, mode]) rfl) rfl
  | setMode tag loader mode => exact CarriesOut.answered (carriesOut_requestAct (body := [loader, mode]) rfl) rfl
  | offer tag loader target mode expiry =>
    exact CarriesOut.answered (.of_role fun _ h => State.moves_offer h _ _ _ _) rfl
  | withdraw tag loader => exact CarriesOut.answered (carriesOut_requestAct (body := [loader]) rfl) rfl
  | release tag loader => exact CarriesOut.answered (carriesOut_requestAct (body := [loader]) rfl) rfl
  | seize tag loader mode => exact CarriesOut.answered (carriesOut_requestAct (body := [loader, mode]) rfl) rfl
  | pause tag loader => exact CarriesOut.answered (carriesOut_requestAct (body := [loader]) rfl) rfl
  | resume tag loader => exact CarriesOut.answered (carriesOut_requestAct (body := [loader]) rfl) rfl
  | stop tag loader => exact CarriesOut.answered (carriesOut_requestAct (body := [loader]) rfl) rfl
  | stopAll tag => exact CarriesOut.answered (carriesOut_requestAct (body := []) rfl) rfl
  | clear tag loader => exact CarriesOut.answered (carriesOut_requestAct (body := [loader]) rfl) rfl
  | acceptItem tag loader => exact CarriesOut.answered (carriesOut_requestAct (body := [loader]) rfl) rfl
  | declineItem tag loader => exact CarriesOut.answered (carriesOut_requestAct (body := [loader]) rfl) rfl
  | dismissItem tag loader => exact CarriesOut.answered (carriesOut_requestAct (body := [loader]) rfl) rfl
  | standDown tag => exact CarriesOut.answered (carriesOut_requestAct (body := []) rfl) rfl
  | standUp tag => exact CarriesOut.answered (carriesOut_requestAct (body := []) rfl) rfl
  | readHolds tag => exact CarriesOut.answered (carriesOut_requestAct (body := []) rfl) rfl
  | readBoard tag => exact CarriesOut.answered (carriesOut_requestAct (body := []) rfl) rfl
  | report tag speed location zone =>
    exact CarriesOut.answered (.of_role fun _ h => State.moves_takeReport h _ _ _) rfl
  | assistRaise tag location => exact CarriesOut.answered (.of_role fun _ h => State.moves_raiseAssist h _) rfl
  | assistCancel tag => exact CarriesOut.answered (carriesOut_requestAct (body := []) rfl) rfl
  | localStop tag => exact CarriesOut.answered (carriesOut_requestAct (body := []) rfl) rfl
  | readRecord tag => exact CarriesOut.answered (carriesOut_requestAct (body := []) rfl) rfl
  | messageSent straps =>
    refine ⟨_, rfl, Starts.obeys ?_⟩
    split
    · next hin _ => exact State.starts_messageSent straps _ hin
    · exact (State.Moves.refl s).starts _
  | powerOn => exact s.starts_powerOn.answered rfl
  | powerOnHoldExpiry straps =>
    refine ⟨_, rfl, Starts.obeys ?_⟩
    split
    · next hpowered hhold => exact State.starts_holdExpiry straps hpowered hhold
    · exact (State.Moves.refl s).starts _
  | supplyFall =>
    refine ⟨_, rfl, Starts.obeys ?_⟩
    split
    · exact s.starts_supplyFall
    · exact (State.Moves.refl s).starts _
  | resetFallFor low =>
    refine ⟨_, rfl, Starts.obeys ?_⟩
    split
    · exact (State.Moves.refl s).starts _
    · exact s.starts_resetFall
  | resetRise straps =>
    refine ⟨_, rfl, Starts.obeys ?_⟩
    split
    · exact (State.Moves.refl s).starts _
    · next hlow => exact State.starts_resetRise straps (by simpa using hlow)
  | memoryStatusRead status =>
    refine ⟨_, rfl, Starts.obeys ?_⟩
    split
    · next hin hload =>
      have hrunning : s.startup.load ≠ .idle := by rw [hload]; simp
      split
      · exact State.starts_loadStep s.now le_rfl _ hrunning
      · split
        · exact State.starts_loadStep s.now le_rfl _ hrunning
        · exact State.starts_loadFails hin hrunning
    · exact (State.Moves.refl s).starts _
  | memoryRetryExpiry =>
    refine ⟨_, rfl, Starts.obeys ?_⟩
    split
    · next hin hload => exact State.starts_loadStep _ (Nat.le_max_left _ _) _ (by rw [hload]; simp)
    · exact (State.Moves.refl s).starts _
  | settingsBlockRead block =>
    refine ⟨_, rfl, Starts.obeys ?_⟩
    split
    · next hin hload =>
      have hrunning : s.startup.load ≠ .idle := by rw [hload]; simp
      split
      · exact State.starts_loadSucceeds block hin hrunning
      · exact State.starts_loadFails hin hrunning
    · exact (State.Moves.refl s).starts _

/-! ### The step -/

/-- Settles O2: every command is answered, keeps the queue and does not turn the clock back. -/
theorem everyCommandIsAnswered : Obligations.EveryCommandIsAnswered := by
  intro c s
  obtain ⟨t, hexec, hobeys⟩ := exec_obeys c s
  exact ⟨t, hexec, hobeys.pending, hobeys.now⟩

theorem Obeys.of_exec {c : Instr} {s t : State} (h : exec c s = .next t) : Obeys c s t := by
  obtain ⟨u, hexec, hobeys⟩ := exec_obeys c s
  rw [hexec] at h
  exact Host.Outcome.next.inj h ▸ hobeys

/-- Settles O1: the step takes the front of the queue apart. -/
theorem stepRunsTheFrontCommand : Obligations.StepRunsTheFrontCommand := by
  refine ⟨fun c rest s => rfl, fun s hempty => ?_⟩
  simp [step, hempty]

/-- An invariant that looks at neither the queue nor the clock is kept by a step when every command keeps it. -/
theorem step_keeps {P : State → Prop} (hpending : ∀ s q, P s → P { s with pending := q })
    (hidle : ∀ s n, P s → P { s with now := n })
    (hkept : ∀ c s t, Obeys c s t → P s → P t) (s t : State) (hs : P s) (hstep : step s = .next t) : P t := by
  unfold step at hstep
  split at hstep
  · exact Host.Outcome.next.inj hstep ▸ hidle s _ hs
  · exact hkept _ _ _ (Obeys.of_exec hstep) (hpending s _ hs)

/-! ### The invariants -/

/-- Settles O4: every command keeps the invariant of motion. -/
theorem everyStepKeepsMotionSafe : Obligations.EveryStepKeepsMotionSafe :=
  step_keeps (fun _ _ => id) (fun _ _ => id) fun _ _ _ hobeys => hobeys.motion

/-- Settles O5: every command keeps the sizes. -/
theorem everyStepKeepsTheBounds : Obligations.EveryStepKeepsTheBounds :=
  step_keeps (fun _ _ => id) (fun _ _ => id) fun _ _ _ hobeys => hobeys.bounded

/-- Settles O6: every command keeps the tables sound. -/
theorem everyStepKeepsTheTablesSound : Obligations.EveryStepKeepsTheTablesSound :=
  step_keeps (fun _ _ => id) (fun _ _ => id) fun _ _ _ hobeys => hobeys.tables

/-- Settles O7: every command keeps ATTN sound. -/
theorem everyStepKeepsAttention : Obligations.EveryStepKeepsAttention :=
  step_keeps (fun _ _ => id) (fun _ _ => id) fun _ _ _ hobeys => hobeys.attn

/-- Settles O8: every command keeps the roles apart. -/
theorem everyStepKeepsTheRolesApart : Obligations.EveryStepKeepsTheRolesApart :=
  step_keeps (fun _ _ => id) (fun _ _ => id) fun _ _ _ hobeys => hobeys.roles

/-- Settles O3: at reset the blocks are at their restart values, and ATTN is low for COLD_START. -/
theorem invariantsHoldAtReset : Obligations.InvariantsHoldAtReset := by
  have hblank : State.reset.Blank := ⟨rfl, rfl, rfl, rfl, rfl, rfl, rfl⟩
  have hordered : State.reset.startup.Ordered := Startup.ordered_loading _ rfl
  exact ⟨hblank.still.motionSafe hordered, hblank.bounded (by simp [State.reset, Liu.Bounded])
    (by simp [State.reset, Link.Bounded]), hblank.tablesSound, rfl, hblank.rolesSound hordered fun _ => rfl⟩

/-! ### The rules of the epoch, the cap and the latch -/

/-- Settles O9: the epoch moves by a grant or a restart alone. -/
theorem theEpochMovesOnlyByAGrant : Obligations.TheEpochMovesOnlyByAGrant :=
  fun _ _ _ hexec => (Obeys.of_exec hexec).epoch

/-- Settles O10: an envelope interval alone raises the cap. -/
theorem theCapRisesOnlyAtAnInterval : Obligations.TheCapRisesOnlyAtAnInterval :=
  fun _ _ _ hexec => (Obeys.of_exec hexec).cap

/-- Settles O11: a set latch keeps its cause but for the commands that clear it. -/
theorem aSetLatchKeepsItsCause : Obligations.ASetLatchKeepsItsCause :=
  fun _ _ _ cause hset hexec => (Obeys.of_exec hexec).latch cause hset

end Sys2Proof.Machine
end

/-!
PROOFS. The line: a rise of LCD, the bytes of a reception, the line-blocked timer, a frame that fails the receive check, and
an own source (R2, R8, R9, R17, R20).
-/
section

namespace Sys2Proof.Machine

/-! ### The Local Link's steps, one after another (R174, R182, R185) -/

theorem Link.Posts.refl (k : Link) : k.Posts [] 0 k := ⟨.refl k, rfl, rfl, rfl⟩

theorem Link.SameSlot.trans {k₁ k₂ k₃ : Link} (h : k₁.SameSlot k₂) (h' : k₂.SameSlot k₃) : k₁.SameSlot k₃ := by
  obtain ⟨hslot, hstream, hreceiver⟩ := h
  obtain ⟨hslot', hstream', hreceiver'⟩ := h'
  exact ⟨hslot'.trans hslot, hstream'.trans hstream, hreceiver'.trans hreceiver⟩

theorem Link.Posts.trans {ns ms : List Notice} {a b : Half} {k₁ k₂ k₃ : Link} (h : k₁.Posts ns a k₂)
    (h' : k₂.Posts ms b k₃) : k₁.Posts (ns ++ ms) (a ||| b) k₃ :=
  ⟨h.1.trans h'.1, h.2.trans h'.2⟩

/-- R185, R187: a flag raised is, of the Local Link, the one flag raised. -/
theorem Link.raise_posts (f : EventFlag) (k : Link) : k.Posts [] f.set (k.raise f) := by
  have hset : f.set ≠ 0 := by cases f <;> decide
  refine ⟨⟨by simp, fun _ => ⟨by simp, by simp, by simp⟩, by simp, by simp, by simp, by simp, by simp, by simp, by simp,
    rfl, ?_⟩, by simp [Link.SameSlot]⟩
  rw [if_neg hset]
  rfl

/-- R182: a notice other than STATE posted with room is, of the Local Link, the one notice posted. -/
theorem State.post_posts {n : Notice} {s : State} (hstate : n.isState = false) (hroom : s.link.notices.length < 32) :
    s.link.Posts [n] 0 (s.post n).link :=
  ⟨State.post_beside hstate hroom, State.post_sameSlot n s⟩

/-! ### A rise of LCD (R2, R17, R20) -/

theorem State.hearsLine_iff {s : State} : s.hearsLine = true ↔ s.inService = true ∧ s.liu.lkey = false := by
  simp [State.hearsLine]

/-- R2: in an active part that hears the line, a rise of LCD begins a reception, starts the line-blocked timer, and takes
access away. -/
theorem State.exec_lcdRise_active {s : State} (hactive : s.active = true) (hlkey : s.liu.lkey = false)
    (hlcd : s.liu.lcd = false) :
    exec .lcdRise s = .next { s with
      liu := Liu.accessRise { s.liu with
        lcd := true, receiving := true, rxBuffer := [], rxCount := 0, blocked := some (s.now + sec 2) } } := by
  show execLcdRise s = _
  simp [execLcdRise, hlcd, hactive, State.hearsLine_of_active hactive, hlkey, Liu.startBlocked, Liu.beginReception,
    Config.lineBlocked]

/-- R2: a part that is not active begins a reception as well, when it hears the line. -/
theorem State.exec_lcdRise_inactive {s : State} (hidle : s.active = false ∨ s.hearsLine = false)
    (hlcd : s.liu.lcd = false) :
    exec .lcdRise s = .next { s with
      liu := if s.hearsLine then { s.liu with lcd := true, receiving := true, rxBuffer := [], rxCount := 0 }
        else { s.liu with lcd := true } } := by
  show execLcdRise s = _
  rcases hidle with h | h
  · simp [execLcdRise, hlcd, h, Liu.beginReception]
  · simp [execLcdRise, hlcd, h]

/-- R17: the head of the queue with its window doubled; the classes keep their lengths. -/
theorem Liu.doubleHead_frames {q : Liu} {f : TxFrame} {rest : List TxFrame} (h : q.frames = f :: rest) :
    q.doubleHead.frames = { f with window := min 32 (2 * f.window) } :: rest ∧
      q.doubleHead.classS.length = q.classS.length ∧ q.doubleHead.classA.length = q.classA.length := by
  unfold Liu.frames at h ⊢
  unfold Liu.doubleHead
  split
  · next g rest' hS =>
    rw [hS] at h
    obtain ⟨rfl, rfl⟩ := List.cons_eq_cons.mp h
    simp [TxFrame.doubleWindow, Config.maxWindow, hS]
  · next g rest' hS hA =>
    rw [hS, hA] at h
    obtain ⟨rfl, rfl⟩ := List.cons_eq_cons.mp h
    simp [TxFrame.doubleWindow, Config.maxWindow, hS, hA]
  · next g rest' hS hA hC =>
    rw [hS, hA, hC] at h
    obtain ⟨rfl, rfl⟩ := List.cons_eq_cons.mp h
    simp [TxFrame.doubleWindow, Config.maxWindow, hS, hA]
  · next hS hA hC => simp [hS, hA, hC] at h

/-- R17: in WAIT a rise of LCD doubles the head's window and returns access to GAP. -/
theorem Liu.accessRise_wait {q : Liu} {d : Nat} (h : q.access = .wait d) :
    q.accessRise = { q.doubleHead with access := .gap } := by
  simp [Liu.accessRise, h]

/-- R2: a byte of a reception under way is counted, and stored while the buffer has room. -/
theorem State.exec_lrxdByte {s : State} (b : Byte) (hears : s.hearsLine = true) (hlcd : s.liu.lcd = true)
    (hreceiving : s.liu.receiving = true) (hlength : s.liu.rxBuffer.length ≤ 26) :
    exec (.lrxdByteReceived b) s = .next { s with liu := { s.liu with
      rxBuffer := (s.liu.rxBuffer ++ [b]).take 26, rxCount := s.liu.rxCount + 1 } } := by
  show execLrxdByteReceived b s = _
  have hbuffer : (if s.liu.rxBuffer.length < Config.rxBufferSize then s.liu.rxBuffer ++ [b] else s.liu.rxBuffer) =
      (s.liu.rxBuffer ++ [b]).take 26 := by
    unfold Config.rxBufferSize
    split
    · next hroom => rw [List.take_of_length_le (by simp; omega)]
    · next hfull => rw [List.take_append_of_le_length (by omega), List.take_of_length_le hlength]
  rw [← hbuffer]
  simp [execLrxdByteReceived, hears, hlcd, hreceiving]

/-- Settles O14, clause by clause: the rise of LCD in an active part without and with a wait, in a part that is not
active, and in one that does not hear the line; a byte heard and a byte discarded; and the line-blocked timer. -/
theorem theLineIsHeard : Obligations.TheLineIsHeard := by
  refine ⟨?_, ?_, ?_, ?_, ?_, ?_, ?_⟩
  · intro s hactive hlkey hlcd hnowait
    rw [State.exec_lcdRise_active hactive hlkey hlcd]
    unfold Liu.accessRise
    cases haccess : s.liu.access with
    | wait d => exact absurd haccess (hnowait d)
    | idle | gap | sending => simp [haccess]
  · intro s d f rest hactive hlkey hlcd hwait hframes
    rw [State.exec_lcdRise_active hactive hlkey hlcd, Liu.accessRise_wait (by exact hwait)]
    obtain ⟨hdoubled, hS, hA⟩ := Liu.doubleHead_frames (q := { s.liu with
      lcd := true, receiving := true, rxBuffer := [], rxCount := 0, blocked := some (s.now + sec 2) }) hframes
    refine ⟨_, rfl, hdoubled, ?_, hS, hA⟩
    rw [Liu.doubleHead_frame]
  · intro s hservice hidle hlkey hlcd
    rw [State.exec_lcdRise_inactive (.inl hidle) hlcd, if_pos (State.hearsLine_iff.mpr ⟨hservice, hlkey⟩)]
  · intro s hdeaf hlcd
    have hdeaf' : s.hearsLine = false := by
      rcases hdeaf with h | h <;> simp [State.hearsLine, h]
    rw [State.exec_lcdRise_inactive (.inr hdeaf') hlcd, hdeaf']
    rfl
  · intro s b hservice hlkey hlcd hreceiving hlength
    exact State.exec_lrxdByte b (State.hearsLine_iff.mpr ⟨hservice, hlkey⟩) hlcd hreceiving hlength
  · intro s b hdeaf
    show execLrxdByteReceived b s = _
    rcases hdeaf with h | h | h | h <;> simp [execLrxdByteReceived, State.hearsLine, h]
  · intro s due hactive hblocked
    refine ⟨s.link.raise .lineBlocked, ?_, Link.raise_posts _ _⟩
    show execLineBlockedExpiry s = _
    simp [execLineBlockedExpiry, hactive, hblocked, State.reach, State.raise, Config.lineBlocked]

/-! ### The fall of LCD (R2, R8, R9) -/

/-- R2: the fall of LCD in an active part, the reception over. -/
theorem State.exec_receptionComplete_active {s : State} (hactive : s.active = true) (hlcd : s.liu.lcd = true)
    (hlkey : s.liu.lkey = false) :
    exec .receptionComplete s =
      .next (if s.liu.receiving then s.received.judgeFrame s.liu.rxBuffer s.liu.rxCount else s.received) := by
  show execReceptionComplete s = _
  simp [execReceptionComplete, hlcd, hactive, State.hearsLine_of_active hactive, hlkey, State.received,
    Liu.endReception]

@[simp] theorem State.received_now (s : State) : s.received.now = s.now := rfl
@[simp] theorem State.received_record (s : State) : s.received.record = s.record := rfl
@[simp] theorem State.received_monitor (s : State) : s.received.monitor = s.monitor := rfl
@[simp] theorem State.received_envelope (s : State) : s.received.envelope = s.envelope := rfl
@[simp] theorem State.received_relay (s : State) : s.received.relay = s.relay := rfl
@[simp] theorem State.received_holds (s : State) : s.received.holds = s.holds := rfl
@[simp] theorem State.received_board (s : State) : s.received.board = s.board := rfl
@[simp] theorem State.received_discrete (s : State) : s.received.discrete = s.discrete := rfl
@[simp] theorem State.received_link (s : State) : s.received.link = s.link := rfl

/-! ### The command stream (R152, R180, R184) -/

/-- R180, R184: the command stream as it was, and a sending under way goes on. -/
structure Link.Runs (k k' : Link) : Prop where
  records : k'.recordStream = k.recordStream
  sending : ∀ x, k.tx = some x → k'.tx = some x

theorem Link.Runs.refl (k : Link) : k.Runs k := ⟨rfl, fun _ => id⟩

theorem Link.Runs.trans {k₁ k₂ k₃ : Link} (h : k₁.Runs k₂) (h' : k₂.Runs k₃) : k₁.Runs k₃ :=
  ⟨h'.records.trans h.records, fun x hx => h'.sending x (h.sending x hx)⟩

theorem Link.runs_raise (f : EventFlag) (k : Link) : k.Runs (k.raise f) := ⟨rfl, fun _ => id⟩

/-- R180: a start completes no message: the records stay. -/
theorem Link.runs_start (now : Nat) (k : Link) : k.Runs (k.start now) := by
  rcases k.start_cases now with h | ⟨_, ht, _, h⟩ | ⟨_, _, ht, hu, _, h⟩ | ⟨_, _, ht, hu, _, h⟩ | ⟨_, _, ht, hu, _, _, _, h⟩
  all_goals
    rw [h]
    refine ⟨?_, fun x hx => ?_⟩
    · simp [Link.recordStream, Link.sending?, *]
    · simp_all

theorem Link.runs_placeNotice (n : Notice) (k : Link) : k.Runs (k.placeNotice n) := by
  rw [Link.placeNotice_frame]
  exact ⟨rfl, fun _ => id⟩

theorem State.runs_post (n : Notice) (s : State) : s.link.Runs (s.post n).link :=
  (Link.runs_placeNotice n s.link).trans (Link.runs_start s.now _)

/-- R180, R184: a record given takes the last place of the command stream, and a transmitter is sending then. -/
theorem Link.withRecord_gave (now : Nat) (r : CommandRecord) (k : Link) : k.Gave now (some r) (k.withRecord now r) := by
  unfold Link.withRecord
  cases htx : k.tx with
  | none => simp [Link.Gave, Link.recordStream, Link.sending?, htx]
  | some x => simp [Link.Gave, Link.recordStream, Link.sending?, htx]

theorem Link.Gave.then {now : Nat} {r : Option CommandRecord} {k₁ k₂ k₃ : Link} (h : k₁.Gave now r k₂)
    (h' : k₂.Runs k₃) : k₁.Gave now r k₃ := by
  cases r with
  | none => exact h'.records.trans h
  | some r => exact ⟨h'.records.trans h.1, fun hidle => h'.sending _ (h.2 hidle)⟩

/-- A link that stands before as another does, for the command stream, has given the same. -/
theorem Link.Gave.of_same {now : Nat} {r : Option CommandRecord} {k₁ k₂ k₃ : Link} (h : k₂.Gave now r k₃)
    (htx : k₂.tx = k₁.tx := by rfl) (hrecord : k₂.unsentRecord = k₁.unsentRecord := by rfl)
    (hnumber : k₂.recordNumber = k₁.recordNumber := by rfl) : k₁.Gave now r k₃ := by
  cases r with
  | none =>
    have h' : k₃.recordStream = k₂.recordStream := h
    simpa [Link.Gave, Link.recordStream, Link.sending?, htx, hrecord] using h'
  | some r =>
    simpa [Link.Gave, Link.recordStream, Link.sending?, htx, hrecord, hnumber] using h

theorem Link.gave_none (now : Nat) (k : Link) : k.Gave now none k := rfl

/-- R152, R184: giving a record leaves the notices, the response in progress and the flags. -/
theorem Link.withRecord_posts (now : Nat) (r : CommandRecord) (k : Link) : k.Posts [] 0 (k.withRecord now r) := by
  unfold Link.withRecord
  split
  · next htx =>
    simp [Link.Posts, Link.Beside, Link.SameSlot, Link.noticeStream, Link.busyStream, Link.responseStream, Link.sending?,
      htx]
  · exact .refl k

@[simp] theorem Link.withRecord_lastReport (now : Nat) (r : CommandRecord) (k : Link) :
    (k.withRecord now r).lastReport = k.lastReport := by
  unfold Link.withRecord; split <;> rfl

@[simp] theorem Link.withRecord_notices (now : Nat) (r : CommandRecord) (k : Link) :
    (k.withRecord now r).notices = k.notices := by
  unfold Link.withRecord; split <;> rfl

/-! ### STATUS (R27, R28) -/

/-- R28: a STATUS reads the record, the cap, the last report, the Monitor, the latch and the clock. -/
theorem State.statusFrame_congr {s t : State} (hnow : t.now = s.now := by rfl) (hstartup : t.startup = s.startup := by rfl)
    (hauth : t.record.auth = s.record.auth := by rfl) (hepoch : t.record.epoch = s.record.epoch := by rfl)
    (hmonitor : t.monitor = s.monitor := by rfl)
    (hcap : t.envelope.cap = s.envelope.cap := by rfl) (hlatch : t.discrete.latch = s.discrete.latch := by rfl)
    (hreport : t.link.lastReport = s.link.lastReport := by rfl) : t.statusFrame = s.statusFrame := by
  have hstandstill : t.standstill = s.standstill := by
    unfold State.standstill
    rw [hreport]
    cases s.link.lastReport with
    | none => rfl
    | some r => simp [hnow, State.periods, State.settings, hstartup]
  simp only [State.statusFrame, State.statusBody, State.station, hstandstill, hstartup, hauth, hepoch, hmonitor, hcap,
    hlatch, hreport]

/-- R15, R27: a STATUS given to the active LIU joins the queue. -/
theorem State.sendStatus_spec {s : State} (hactive : s.active = true) :
    s.sendStatus = { s with liu := s.sendStatus.liu } ∧ Liu.Joined s.statusFrame s.liu s.sendStatus.liu := by
  obtain ⟨hframe, hjoined, _⟩ := State.give_spec s.statusFrame s hactive trivial
  exact ⟨hframe, hjoined⟩

/-! ### The setting of the latch (R150, R162, R163) -/

/-- R162, R166: with the latch set MOTION_ENABLE is low and the cap 0. -/
theorem State.latched_eq (cause : StopCause) (s : State) :
    s.latched cause =
      { s with
        discrete := { s.discrete with latch := some (s.discrete.latch.getD cause), motionEnable := false }
        envelope := { s.envelope with cap := 0 }
        link := s.link.raise .stopSet } := by
  simp [State.latched, State.judgeMotion, State.motionCondition, State.evaluate, State.capOf, State.overridden,
    State.raise]

/-- R162: a setting that finds the latch set gives a STATUS alone. -/
theorem State.setLatch_of_set {s : State} {cause : StopCause} (h : s.discrete.latch.isSome = true) :
    s.setLatch cause = (s.latched cause).sendStatus := by
  have hset : s.discrete.latch.isNone = false := by simpa using h
  simp [State.setLatch, State.latched, hset]

/-- R150, R163: a setting that finds the latch clear gives the zeroed record, a STATUS and a LATCH notice. -/
theorem State.setLatch_of_clear {s : State} {cause : StopCause} (h : s.discrete.latch = none) :
    s.setLatch cause = (s.latched cause).giveZeroed.sendStatus.post (.latch (some cause)) := by
  simp [State.setLatch, State.latched, h]

/-- R28, R150, R162, R163: what a setting of the latch does in an active part. -/
theorem State.setLatch_spec {s : State} (hactive : s.active = true) (cause : StopCause) :
    s.LatchedBy cause (s.setLatch cause) ∧
      s.link.Gave s.now (if s.discrete.latch = none then some {} else none) (s.setLatch cause).link ∧
      (s.link.notices.length < 32 → s.link.Posts (s.latchNotices cause) 0x0004 (s.setLatch cause).link) := by
  have hraised : s.link.Posts [] 0x0004 (s.link.raise .stopSet) := Link.raise_posts _ _
  cases hlatch : s.discrete.latch with
  | some c =>
    rw [State.setLatch_of_set (by simp [hlatch]), State.latched_eq]
    set u : State := { s with
      discrete := { s.discrete with latch := some (s.discrete.latch.getD cause), motionEnable := false }
      envelope := { s.envelope with cap := 0 }
      link := s.link.raise .stopSet } with hu
    obtain ⟨hframe, hjoined⟩ := State.sendStatus_spec (s := u) hactive
    rw [hframe]
    refine ⟨⟨?_, hjoined⟩, ?_, fun _ => ?_⟩
    · simp [hu, hlatch]
    · simpa using Link.Gave.then (Link.gave_none s.now s.link) (Link.runs_raise .stopSet s.link)
    · simpa [State.latchNotices, hlatch] using hraised
  | none =>
    rw [State.setLatch_of_clear hlatch, State.latched_eq, State.giveZeroed, State.giveRecord_spec]
    set u : State := { s with
      discrete := { s.discrete with latch := some (s.discrete.latch.getD cause), motionEnable := false }
      envelope := { s.envelope with cap := 0 }
      relay := { s.relay with lastRecord := zeroedRecord .repeated }
      link := (s.link.raise .stopSet).withRecord s.now (zeroedRecord .repeated) } with hu
    obtain ⟨hframe, hjoined⟩ := State.sendStatus_spec (s := u) hactive
    have hgave : s.link.Gave s.now (some (zeroedRecord .repeated)) u.link :=
      (Link.withRecord_gave s.now (zeroedRecord .repeated) (s.link.raise .stopSet)).of_same
    have hposts : s.link.Posts [] 0x0004 u.link := hraised.trans (Link.withRecord_posts _ _ _)
    show s.LatchedBy cause (u.sendStatus.post (.latch (some cause))) ∧ _
    rw [hframe]
    refine ⟨⟨by simp [hu, hlatch, State.post, zeroedRecord], ?_⟩, ?_, fun hroom => ?_⟩
    · rwa [State.statusFrame_congr (s := u) (hreport := by simp [State.post])]
    · exact hgave.then (State.runs_post _ { u with liu := u.sendStatus.liu })
    · have hposted := State.post_posts (n := .latch (some cause)) (s := { u with liu := u.sendStatus.liu }) rfl
        (by simpa [hu] using hroom)
      simpa [State.latchNotices, hlatch] using hposts.trans hposted

/-! ### A bad frame and an own source (R8, R9) -/

/-- Settles O15, clause by clause: a frame that fails the check, a fall with no reception, a part that is not active, a
fall that is not heard, and a duplicate at a chair and aboard a loader. -/
theorem aBadFrameIsDroppedAndAnOwnSourceIsADuplicate :
    Obligations.ABadFrameIsDroppedAndAnOwnSourceIsADuplicate := by
  refine ⟨?_, ?_, ?_, ?_, ?_, ?_⟩
  · intro s hactive hlcd hlkey hreceiving hbad
    rw [State.exec_receptionComplete_active hactive hlcd hlkey, if_pos hreceiving]
    simp [State.judgeFrame, hbad, State.received]
  · intro s hactive hlcd hlkey hreceiving
    rw [State.exec_receptionComplete_active hactive hlcd hlkey, hreceiving]
    rfl
  · intro s hservice hidle hlcd hlkey
    show execReceptionComplete s = _
    simp [execReceptionComplete, hlcd, State.hearsLine, hservice, hlkey, hidle, Liu.endReception]
  · intro s hlcd hdeaf
    show execReceptionComplete s = _
    have hdeaf' : s.hearsLine = false := by
      rcases hdeaf with h | h <;> simp [State.hearsLine, h]
    simp [execReceptionComplete, hlcd, hdeaf']
  · intro s f hreceives hsource hrole
    refine ⟨s.link.raise .duplicateStation, ?_, Link.raise_posts _ _⟩
    rw [hreceives.exec_receptionComplete]
    simp [State.takeFrame, hsource, State.duplicate, hrole, State.raise]
  · intro s f hreceives hsource hrole hroom
    have hraised : s.link.Posts [] 0x0100 (s.link.raise .duplicateStation) := Link.raise_posts _ _
    obtain ⟨⟨hframe, hjoined⟩, -, hposts⟩ :=
      State.setLatch_spec (s := s.received.raise .duplicateStation) hreceives.1 .duplicate
    refine ⟨(s.received.raise .duplicateStation).setLatch .duplicate, ?_, ⟨hframe, hjoined⟩,
      hraised.trans (hposts hroom)⟩
    rw [hreceives.exec_receptionComplete]
    simp [State.takeFrame, hsource, State.duplicate, hrole, State.raise]

end Sys2Proof.Machine
end

/-!
PROOFS. The line: channel access, a sending and its completion, and a frame without room (R1, R12 to R20).
-/
section

namespace Sys2Proof.Machine

/-! ### Channel access (R16, R17) -/

theorem Liu.head?_eq (q : Liu) : q.head? = q.frames.head? := rfl

theorem Liu.queueEmpty_eq (q : Liu) : q.queueEmpty = decide (q.frames = []) := by
  show q.frames.isEmpty = _
  cases q.frames <;> rfl

/-- R17: with a frame in the queue WAIT begins, with a draw below the head's window. -/
theorem Liu.enterWait_of_frames {q : Liu} {f : TxFrame} {rest : List TxFrame} (now station : Nat)
    (h : q.frames = f :: rest) :
    q.enterWait now station =
      { q with
        access := .wait (now + Config.slot * (Config.accessDraw station q.draws % f.window)), draws := q.draws + 1 } := by
  simp [Liu.enterWait, Liu.head?_eq, h]

/-- R12, R18: without its head the queue holds the rest. -/
theorem Liu.dropHead_frames {q : Liu} {f : TxFrame} {rest : List TxFrame} (h : q.frames = f :: rest) :
    q.dropHead.frames = rest := by
  unfold Liu.frames at h ⊢
  unfold Liu.dropHead
  split
  · next hS => simpa [hS] using (List.cons_eq_cons.mp (by simpa [hS] using h)).2
  · next hS hA => simpa [hS, hA] using (List.cons_eq_cons.mp (by simpa [hS, hA] using h)).2
  · next hS hA => simp [hS, hA] at h; simp [hS, hA, h]

theorem Liu.dropHead_frame (q : Liu) :
    q.dropHead = { q with
      classS := q.dropHead.classS, classA := q.dropHead.classA, classC := q.dropHead.classC } := by
  unfold Liu.dropHead; split <;> rfl

/-- R3, R18: the sending of the head begins. -/
theorem Liu.beginSending_of_frames {q : Liu} {f : TxFrame} {rest : List TxFrame} (now station : Nat)
    (h : q.frames = f :: rest) :
    q.beginSending now station = { q.dropHead with
      lkey := true, access := .sending ⟨f, f.bytes station q.sequence, now, false⟩ } := by
  simp [Liu.beginSending, Liu.head?_eq, h]

/-- Settles O16: the gap leads to WAIT with a draw below the window, and the wait to the sending of the head. -/
theorem theGapAndTheWaitLeadToASending : Obligations.TheGapAndTheWaitLeadToASending := by
  refine ⟨?_, ?_⟩
  · intro s f rest hactive hlcd haccess hframes hwindow
    refine ⟨Config.accessDraw s.station s.liu.draws % f.window, Nat.mod_lt _ hwindow, ?_⟩
    show execGapMet s = _
    simp [execGapMet, hactive, hlcd, haccess, State.reach, Liu.enterWait_of_frames _ _ hframes, State.station,
      Config.gap, Config.slot, Nat.mul_comm]
  · intro s due f rest hactive hlcd haccess hframes
    refine ⟨s.liu.beginSending (max s.now due) s.station, ?_, ?_, ?_⟩
    · show execWaitExpiry s = _
      simp [execWaitExpiry, hactive, hlcd, haccess, State.reach, State.station]
    · rw [Liu.beginSending_of_frames _ _ hframes]
      exact Liu.dropHead_frames hframes
    · rw [Liu.beginSending_of_frames _ _ hframes, Liu.dropHead_frame]

/-! ### A sending (R1, R18 to R20) -/

/-- R16: a gap measured from now is not met yet. -/
theorem Liu.enterGap_fresh {q : Liu} {now : Nat} (station : Nat) (h : q.gapFrom = now) :
    q.enterGap now station = { q with access := .gap } := by
  simp [Liu.enterGap, h, Config.gap, ms]

/-- R18: access after a sending that has just ended. -/
theorem Liu.afterSending_fresh {q : Liu} {now : Nat} (station : Nat) (h : q.gapFrom = now) :
    q.afterSending now station = { q with access := if q.frames = [] then .idle else .gap } := by
  unfold Liu.afterSending
  rw [Liu.queueEmpty_eq, Liu.enterGap_fresh station h]
  split <;> simp_all

@[simp] theorem Liu.lowerKey_gapFrom (now : Nat) (q : Liu) : (q.lowerKey now).gapFrom = now := by
  cases h : q.lcd <;> simp [Liu.lowerKey, h, Liu.beginReception, Liu.startBlocked]

/-- R2, R19, R20: the lowering of LKEY leaves the queue and channel access. -/
theorem Liu.lowerKey_queue (now : Nat) (q : Liu) :
    (q.lowerKey now).classS = q.classS ∧ (q.lowerKey now).classA = q.classA ∧ (q.lowerKey now).classC = q.classC ∧
      (q.lowerKey now).access = q.access := by
  cases h : q.lcd <;> simp [Liu.lowerKey, h, Liu.beginReception, Liu.startBlocked]

/-- R18: LKEY is lowered and the access moves on, with an access `a`. -/
def Liu.lowered (now : Nat) (a : Access) (q : Liu) : Liu :=
  if q.lcd = true then
    { q with
      lkey := false, ltxd := [], sequence := q.sequence + 1, gapFrom := now, access := a
      receiving := true, rxBuffer := [], rxCount := 0, blocked := some (now + sec 2) }
  else { q with lkey := false, ltxd := [], sequence := q.sequence + 1, gapFrom := now, access := a }

theorem Liu.lowerKey_access (now : Nat) (a : Access) (q : Liu) :
    { q.lowerKey now with access := a } = q.lowered now a := by
  unfold Liu.lowerKey Liu.lowered
  simp only [Liu.beginReception, Liu.startBlocked, Config.lineBlocked]
  split <;> rfl

/-- R18: the state at the end of a sending, before the block that gave the frame is informed. -/
def State.keyLowered (now : Nat) (s : State) : State := { s with now, liu := s.liu.lowerKey now }

/-- R18: channel access moves on when the block has been informed. -/
def State.accessFreed (s : State) : State := { s with liu := s.liu.afterSending s.now s.station }

theorem State.sendingDone_freed (out : Sending) (s : State) :
    s.sendingDone out = (State.informSent out.frame.owner (s.keyLowered (max s.now out.endsAt))).accessFreed := rfl

theorem State.exec_sendingComplete {s : State} {out : Sending} (hactive : s.active = true)
    (haccess : s.liu.access = .sending out) (hover : out.leadOver = true) :
    exec .sendingComplete s = .next (s.sendingDone out) := by
  show execSendingComplete s = _
  simp [execSendingComplete, hactive, haccess, hover]

/-- R18: the completion of a sending whose block, when it is informed, gives nothing to the LIU. -/
theorem State.sendingDone_eq {s t : State} {out : Sending} {owner : FrameOwner} (howner : out.frame.owner = owner)
    (h : State.informSent owner (s.keyLowered (max s.now out.endsAt)) = t)
    (hnow : t.now = max s.now out.endsAt := by rfl)
    (hliu : t.liu = s.liu.lowerKey (max s.now out.endsAt) := by rfl) :
    s.sendingDone out =
      { t with liu := s.liu.lowered (max s.now out.endsAt) (if s.liu.frames = [] then .idle else .gap) } := by
  rw [State.sendingDone_freed, howner, h, State.accessFreed, hnow, hliu, Liu.afterSending_fresh _ (by simp),
    Liu.lowerKey_access]
  obtain ⟨hS, hA, hC, -⟩ := s.liu.lowerKey_queue (max s.now out.endsAt)
  have hframes : (s.liu.lowerKey (max s.now out.endsAt)).frames = s.liu.frames := by simp [Liu.frames, hS, hA, hC]
  rw [hframes, ← hnow]

/-- R167: a list whose first entry is not due gives nothing. -/
theorem State.giveStop_of_not_due {s : State} (h : ∀ e ∈ s.discrete.stopList.head?, s.now < e.notBefore) :
    s.giveStop = s := by
  unfold State.giveStop
  split
  · rfl
  · cases hlist : s.discrete.stopList with
    | nil => rfl
    | cons e rest =>
      have hlate : s.now < e.notBefore := h e (by simp [hlist])
      simp [Nat.not_le.mpr hlate]

/-- R167: a due first entry is given to an LIU with room in class S, and sets the mark. -/
theorem State.giveStop_of_due {s : State} {e : StopEntry} {rest : List StopEntry} (hactive : s.active = true)
    (hfree : s.discrete.stopOutstanding = false) (hlist : s.discrete.stopList = e :: rest) (hdue : e.notBefore ≤ s.now)
    (hroom : s.liu.classS.length < 2) :
    s.giveStop = { s with
      discrete := { s.discrete with stopList := rest, stopOutstanding := true }, liu := (s.give (s.stopFrame e)).liu } ∧
    Liu.Joined (s.stopFrame e) s.liu (s.give (s.stopFrame e)).liu := by
  obtain ⟨hframe, hjoined, hdrop⟩ := State.give_spec (s.stopFrame e) s hactive hroom
  refine ⟨?_, hjoined⟩
  unfold State.giveStop
  rw [if_neg (by simp [hactive, hfree]), hlist]
  simp only [if_pos hdue, hdrop]
  rw [hframe]
  rfl

/-- R13 to R17: a STOP that joins the queue during a sending takes the last place of class S, and nothing else moves. -/
theorem Liu.Joined.stop_during_sending {f : TxFrame} {q q' : Liu} {out : Sending} (h : Liu.Joined f q q')
    (hclass : f.kind.frameClass = .s) (haccess : q.access = .sending out) (hdraws : q'.draws = q.draws) :
    q' = { q with classS := q.classS ++ [f] } := by
  obtain ⟨hframe, hgoes⟩ := h
  have hstays := hgoes out haccess
  rw [hframe]
  simp [hclass, hstays, hdraws]

/-- R17: during a sending a frame that joins draws nothing. -/
theorem Liu.give_draws_of_sending {q : Liu} {out : Sending} (now station : Nat) (f : TxFrame)
    (haccess : q.access = .sending out) : (q.give now station f).1.draws = q.draws := by
  unfold Liu.give
  cases f.kind.frameClass with
  | s => simp only; split <;> simp [Liu.onJoin, haccess]
  | a =>
    simp only
    split
    · simp [Liu.onJoin, haccess]
    · split <;> simp [Liu.onJoin, haccess]
  | c =>
    simp only
    split
    · rfl
    · split <;> simp [Liu.onJoin, haccess]

theorem State.give_liu {s : State} (hactive : s.active = true) (f : TxFrame) :
    (s.give f).liu = (s.liu.give s.now s.station f).1 := by
  unfold State.give
  rw [if_pos hactive]
  split <;> simp_all

/-- R18, R167: the completion of a STOP whose list has a due first entry: the entry is given, and access is GAP. -/
theorem State.sendingDone_giving {s : State} {out : Sending} {e : StopEntry} (hactive : s.active = true)
    (haccess : s.liu.access = .sending out) (howner : out.frame.owner = .stop) (he : e ∈ s.discrete.stopList.head?)
    (hdue : e.notBefore ≤ max s.now out.endsAt) (hroom : s.liu.classS.length < 2) :
    s.sendingDone out = { s with
      now := max s.now out.endsAt
      liu := { s.liu.lowered (max s.now out.endsAt) .gap with classS := s.liu.classS ++ [s.stopFrame e] }
      discrete := { s.discrete with stopList := s.discrete.stopList.tail, stopOutstanding := true } } := by
  obtain ⟨rest, hlist⟩ : ∃ rest, s.discrete.stopList = e :: rest := by
    cases hlist : s.discrete.stopList with
    | nil => simp [hlist] at he
    | cons a rest => simp [hlist] at he; exact ⟨rest, by rw [he]⟩
  set u : State := { s.keyLowered (max s.now out.endsAt) with
    discrete := { s.discrete with stopOutstanding := false } } with hu
  obtain ⟨hS, hA, hC, hac⟩ := s.liu.lowerKey_queue (max s.now out.endsAt)
  have haccess' : u.liu.access = .sending out := hac.trans haccess
  obtain ⟨hgive, hjoined⟩ := State.giveStop_of_due (s := u) hactive rfl (by exact hlist) hdue
    (by show (s.liu.lowerKey _).classS.length < 2; rwa [hS])
  have hliu := hjoined.stop_during_sending rfl haccess'
    (by rw [State.give_liu (s := u) hactive, Liu.give_draws_of_sending _ _ _ haccess'])
  have hinform : State.informSent out.frame.owner (s.keyLowered (max s.now out.endsAt)) = u.giveStop := by
    rw [howner]; rfl
  rw [State.sendingDone_freed, hinform, State.accessFreed, hgive, hliu, Liu.afterSending_fresh _ (by simp [hu, State.keyLowered])]
  have hsame : u.stopFrame e = s.stopFrame e := rfl
  rw [hsame, ← Liu.lowerKey_access]
  simp [hu, State.keyLowered, Liu.frames, hS, hlist]

/-- R57: the completion of an outstanding frame renews the deadline of the entry that awaits its answer. -/
theorem State.outstandingSent_frame (ref : Nat) (s : State) :
    s.outstandingSent ref = { s with holds := { s.holds with entries := s.holds.entries.map fun e =>
      match e.phase with
      | .acquiring g o =>
        { e with phase := .acquiring g (if o.ref = ref then { o with deadline := s.now + ms (4 * s.settings.p) } else o) }
      | .releasing o =>
        { e with phase := .releasing (if o.ref = ref then { o with deadline := s.now + ms (4 * s.settings.p) } else o) }
      | _ => e } } := by
  simp only [State.outstandingSent, State.periods]
  congr 3
  funext e
  cases e.phase <;> rfl

/-- R64: the completion of an OFFER starts the deadline of the entry that made it. -/
theorem State.offerSent_frame (ref : Nat) (s : State) :
    s.offerSent ref = { s with holds := { s.holds with entries := s.holds.entries.map fun e =>
      match e.phase with
      | .offering o =>
        if o.ref = ref then { e with phase := .offering { o with deadline := some (s.now + o.span) } } else e
      | _ => e } } := by
  simp only [State.offerSent]
  congr 3
  funext e
  cases e.phase <;> rfl

/-- Settles O17: the key-up lead, and the completion by the owner of the frame sent. -/
theorem aSendingRunsToItsCompletion : Obligations.ASendingRunsToItsCompletion := by
  refine ⟨?_, ?_⟩
  · intro s out hactive haccess hlead
    show execKeyUpLeadExpiry s = _
    simp [execKeyUpLeadExpiry, hactive, haccess, hlead, State.reach, Config.keyUpLead]
  · intro s out hactive haccess hover
    have hexec := State.exec_sendingComplete hactive haccess hover
    refine ⟨?_, ?_, ?_, ?_, ?_, ?_, ?_⟩
    · intro howner
      rw [hexec, State.sendingDone_eq howner rfl]
      rfl
    · intro howner
      rw [hexec, State.sendingDone_eq howner rfl]
      rfl
    · intro ref howner
      rw [hexec, State.sendingDone_eq howner (State.outstandingSent_frame ref _)]
      rfl
    · intro ref howner
      rw [hexec, State.sendingDone_eq howner (State.offerSent_frame ref _)]
      rfl
    · intro howner hnotdue
      rw [hexec, State.sendingDone_eq howner (State.giveStop_of_not_due (by exact hnotdue))]
      rfl
    · intro e he howner hdue hroom
      rw [hexec, State.sendingDone_giving hactive haccess howner he hdue hroom]
      cases hlcd : s.liu.lcd <;> simp [Liu.lowered, hlcd, State.stopFrame]
    · intro howner
      rw [hexec, State.sendingDone_eq howner rfl]
      rfl

/-! ### A frame without room (R13, R14) -/

theorem removeOldestAssistCall_none {l : List TxFrame} (h : ∀ g ∈ l, g.kind ≠ .assistCall) :
    removeOldestAssistCall l = none := by
  induction l with
  | nil => rfl
  | cons f rest ih =>
    simp only [List.mem_cons, forall_eq_or_imp] at h
    simp [removeOldestAssistCall, h.1, ih h.2]

theorem removeOldestAssistCall_first {before after : List TxFrame} {g : TxFrame}
    (h : ∀ x ∈ before, x.kind ≠ .assistCall) (hg : g.kind = .assistCall) :
    removeOldestAssistCall (before ++ g :: after) = some (before ++ after) := by
  induction before with
  | nil => simp [removeOldestAssistCall, hg]
  | cons f rest ih =>
    simp only [List.mem_cons, forall_eq_or_imp] at h
    simp [removeOldestAssistCall, h.1, ih h.2]

/-- R13, R14: a frame that the LIU drops raises TX_OVERFLOW and leaves the queue. -/
theorem State.give_dropped {s : State} {f : TxFrame} (hactive : s.active = true)
    (h : s.liu.give s.now s.station f = (s.liu, true)) : s.give f = { s with link := s.link.raise .txOverflow } := by
  simp [State.give, hactive, h]

/-- Settles O54: a full class S, a full class A, and a class A that an ASSIST_CALL makes room in. -/
theorem aFrameWithoutRoomIsDropped : Obligations.AFrameWithoutRoomIsDropped := by
  intro s f hactive
  refine ⟨?_, ?_, ?_⟩
  · intro hclass hfull
    exact State.give_dropped hactive (by simp [Liu.give, hclass, hfull, Config.slotsS])
  · intro hclass hfull hnone
    exact State.give_dropped hactive
      (by simp [Liu.give, hclass, hfull, Config.slotsA, removeOldestAssistCall_none hnone])
  · intro before g after hclass hA hfull hbefore hg
    have hroom := removeOldestAssistCall_first (after := after) hbefore hg
    rw [← hA] at hroom
    set u : Liu := { s.liu with classA := before ++ after ++ [f] } with hu
    have hgive : s.liu.give s.now s.station f =
        (u.onJoin s.now s.station (s.liu.head?.map fun h => h.kind.frameClass) .a, false) := by
      simp [Liu.give, hclass, hfull, Config.slotsA, hroom, hu]
    refine ⟨u.onJoin s.now s.station (s.liu.head?.map fun h => h.kind.frameClass) .a, ?_, ?_⟩
    · simp [State.give, hactive, hgive]
    · obtain ⟨hframe, -⟩ := Liu.onJoin_spec s.now s.station (s.liu.head?.map fun h => h.kind.frameClass) .a u
      rw [hframe]
      exact ⟨rfl, rfl, rfl⟩

end Sys2Proof.Machine
end

/-!
PROOFS. The layouts: a frame's bytes at a receiver, and a request's bytes at the Local Link (R3, R4, R8, R172 to R175).
-/
section

namespace Sys2Proof.Machine

/-! ### Bytes, halves and checks (R4) -/

theorem halfOf_bytesOfHalf (h : Half) : halfOf (h.extractLsb' 8 8) (h.extractLsb' 0 8) = h := by
  apply BitVec.eq_of_getLsbD_eq
  intro i hi
  simp only [halfOf, BitVec.getLsbD_append, BitVec.getLsbD_extractLsb']
  split
  · next hlow => simp [hlow]
  · next hhigh => simp [show i - 8 < 8 by omega, show 8 + (i - 8) = i by omega]

theorem byte_toNat {n : Nat} (h : n < 256) : (byte n).toNat = n := by
  simp [byte, Nat.mod_eq_of_lt h]

@[simp] theorem checkBytes_length (bs : List Byte) : (checkBytes bs).length = 2 := rfl

theorem FrameKind.ofCode?_code (k : FrameKind) : FrameKind.ofCode? k.code = some k := by cases k <;> rfl

theorem FrameKind.bodyLength_le (k : FrameKind) : k.bodyLength ≤ 16 := by cases k <;> decide

/-! ### A frame at its receiver (R3, R8) -/

/-- R3: the bytes of a frame that the check covers. -/
def TxFrame.head (source : Nat) (seq : Byte) (f : TxFrame) : List Byte :=
  [f.kind.code, byte source, byte f.dest, byte f.loader, f.epoch.extractLsb' 8 8, f.epoch.extractLsb' 0 8, seq,
    byte f.kind.bodyLength] ++ f.body

theorem TxFrame.bytes_eq (source : Nat) (seq : Byte) (f : TxFrame) :
    f.bytes source seq = f.head source seq ++ checkBytes (f.head source seq) := rfl

theorem TxFrame.head_length {f : TxFrame} (source : Nat) (seq : Byte) (h : f.body.length = f.kind.bodyLength) :
    (f.head source seq).length = 8 + f.kind.bodyLength := by
  simp [TxFrame.head, h]
  omega

/-- R8: a frame within the ranges of Table 2-1 passes the receive check. -/
theorem TxFrame.receiveCheck_bytes {f : TxFrame} {source : Nat} (seq : Byte) (hpos : 1 ≤ source) (hle : source ≤ 63)
    (hdest : f.dest ≤ 63 ∨ (65 ≤ f.dest ∧ f.dest ≤ 72)) (hloader : f.loader ≤ 63)
    (hbody : f.body.length = f.kind.bodyLength) :
    receiveCheck (f.bytes source seq) (10 + f.kind.bodyLength) =
      some ⟨f.kind, source, f.dest, f.loader, f.epoch, seq, f.body⟩ := by
  have hlength := TxFrame.head_length source seq hbody
  have hshort := f.kind.bodyLength_le
  have hcount : ((f.bytes source seq).getD 7 0).toNat = f.kind.bodyLength := byte_toNat (by omega)
  have htake : (f.bytes source seq).take (8 + f.kind.bodyLength) = f.head source seq := by
    rw [TxFrame.bytes_eq, ← hlength, List.take_left]
  have hdrop : (f.bytes source seq).drop (8 + f.kind.bodyLength) = checkBytes (f.head source seq) := by
    rw [TxFrame.bytes_eq, ← hlength, List.drop_left]
  have htaken : ((f.bytes source seq).drop 8).take f.kind.bodyLength = f.body := by
    show ((f.body ++ checkBytes (f.head source seq))).take f.kind.bodyLength = f.body
    rw [← hbody, List.take_left]
  have hsource : ((f.bytes source seq).getD 1 0).toNat = source := byte_toNat (by omega)
  have hto : ((f.bytes source seq).getD 2 0).toNat = f.dest := byte_toNat (by omega)
  have habout : ((f.bytes source seq).getD 3 0).toNat = f.loader := byte_toNat (by omega)
  have hkind : FrameKind.ofCode? ((f.bytes source seq).getD 0 0) = some f.kind := f.kind.ofCode?_code
  have hepoch : halfOf ((f.bytes source seq).getD 4 0) ((f.bytes source seq).getD 5 0) = f.epoch :=
    halfOf_bytesOfHalf f.epoch
  have hseq : (f.bytes source seq).getD 6 0 = seq := rfl
  unfold receiveCheck
  simp only [hcount, htake, hdrop, htaken, hkind, hsource, hto, habout, hepoch, hseq]
  rw [if_neg (by omega), if_neg (by simp), if_neg (by simp), if_neg (by omega)]

/-- Settles O12: the published check value, and the round trip of a frame's bytes. -/
theorem aSentFrameIsReceived : Obligations.ASentFrameIsReceived := by
  refine ⟨by decide +kernel, fun f source seq hpos hle hdest hloader hbody => ?_⟩
  have hlength : (f.bytes source seq).length = 10 + f.kind.bodyLength := by
    rw [TxFrame.bytes_eq, List.length_append, TxFrame.head_length source seq hbody, checkBytes_length]
    omega
  rw [hlength]
  exact ⟨rfl, TxFrame.receiveCheck_bytes seq hpos hle hdest hloader hbody⟩

/-! ### A request's row and its message (Table 10-4) -/

/-- Table 10-4: the row of a request and the message that spells it are carried out alike. -/
theorem exec_of_requestMessage {c : Instr} {m : Message} {role : RequestRole}
    (h : requestMessage? c = some (m, role)) :
    m.body.length ≤ 32 ∧ ∃ act, requestAct m.kind m.body = some (role, act) ∧
      ∀ s, exec c s = .next (s.request m.kind m.tag true role act) := by
  cases c
  case readFlags | setMask | axes | offer | assistRaise =>
    cases h
    exact ⟨by simp [bytesOfHalf], _, rfl, fun s => by rw [halfOf_bytesOfHalf]; rfl⟩
  case report =>
    cases h
    exact ⟨by simp [bytesOfHalf], _, rfl, fun s => by rw [halfOf_bytesOfHalf, halfOf_bytesOfHalf]; rfl⟩
  all_goals cases h <;> exact ⟨by simp, _, rfl, fun s => rfl⟩

/-! ### The bytes of a message (R173) -/

/-- A part whose receiver is in a state, and else as it was. -/
def State.receiving (r : Receiver) (s : State) : State := { s with link := { s.link with receiver := r } }

/-- R173: a byte with a good stop bit, in time. -/
theorem exec_llrxByte {s : State} {b : Byte} (hservice : s.inService = true) (hintime : s.byteLate = false) :
    exec (.llrxByteReceived b true) s = .next (s.takeByte b) := by
  show execLlrxByteReceived b true s = _
  simp [execLlrxByteReceived, hservice, hintime]

/-- R173: the bytes from the kind on, the last of them a check byte, lead to the judging of the message. -/
theorem State.hears_body {n : Nat} {s : State} (hservice : s.inService = true) (bs got : List Byte) (hbs : bs ≠ [])
    (hlength : (got ++ bs).length = n + 2) :
    ∃ u r, u = s.receiving r ∧ State.Hears bs (s.receiving (.body n got s.now)) (u.judgeMessage n (got ++ bs)) := by
  induction bs generalizing got with
  | nil => exact absurd rfl hbs
  | cons b rest ih =>
    have hexec : exec (.llrxByteReceived b true) (s.receiving (.body n got s.now)) = .next _ :=
      exec_llrxByte hservice (by simp [State.byteLate, State.receiving, Receiver.lastByte?])
    cases rest with
    | nil =>
      refine ⟨s.receiving (.body n got s.now), _, rfl, _, hexec, ?_⟩
      have hlast : got.length + 1 = n + 2 := by simpa using hlength
      simp [State.Hears, State.takeByte, State.receiving, hlast]
    | cons c rest =>
      have hmore : got.length + 1 ≠ n + 2 := by
        simp at hlength
        omega
      obtain ⟨u, r, hu, hhears⟩ := ih (got ++ [b]) (by simp) (by simpa using hlength)
      refine ⟨u, r, hu, _, hexec, ?_⟩
      have hstep : (s.receiving (.body n got s.now)).takeByte b = s.receiving (.body n (got ++ [b]) s.now) := by
        simp only [State.takeByte, State.receiving]
        rw [if_neg hmore]
      rw [hstep]
      simpa using hhears

/-- The bytes of a message that its check covers. -/
def Message.head (m : Message) : List Byte := byte (2 + m.body.length) :: m.kind :: m.tag :: m.body

/-- R173, R174: a message whose check agrees reaches the request slot. -/
theorem State.judgeMessage_bytes (m : Message) (r : Receiver) (s : State) :
    (s.receiving r).judgeMessage (2 + m.body.length) (m.kind :: m.tag :: m.body ++ checkBytes m.head) =
      (s.receiving .hunt).messageArrives m.kind m.tag m.body := by
  have hlength : (m.kind :: m.tag :: m.body).length = 2 + m.body.length := by simp; omega
  have htake : (m.kind :: m.tag :: m.body ++ checkBytes m.head).take (2 + m.body.length) = m.kind :: m.tag :: m.body := by
    rw [← hlength, List.take_left]
  have hdrop : (m.kind :: m.tag :: m.body ++ checkBytes m.head).drop (2 + m.body.length) = checkBytes m.head := by
    rw [← hlength, List.drop_left]
  unfold State.judgeMessage
  rw [htake, hdrop]
  exact if_pos rfl

/-- R173: the bytes of a message, from HUNT on, reach the request slot. -/
theorem State.hears_message {m : Message} {s : State} (hbody : m.body.length ≤ 32) (hservice : s.inService = true)
    (hhunt : s.link.receiver = .hunt) : State.Hears m.bytes s (s.messageArrives m.kind m.tag m.body) := by
  have hlength : (byte (2 + m.body.length)).toNat = 2 + m.body.length := byte_toNat (by omega)
  have hfirst : exec (.llrxByteReceived 0xA5 true) s = .next (s.receiving (.length s.now)) := by
    rw [exec_llrxByte hservice (by simp [State.byteLate, hhunt, Receiver.lastByte?])]
    simp [State.takeByte, hhunt, State.receiving]
  have hsecond : exec (.llrxByteReceived (byte (2 + m.body.length)) true) (s.receiving (.length s.now)) =
      .next (s.receiving (.body (2 + m.body.length) [] s.now)) := by
    rw [exec_llrxByte (s := s.receiving (.length s.now)) hservice
      (by simp [State.byteLate, State.receiving, Receiver.lastByte?])]
    simp only [State.takeByte, State.receiving, hlength]
    rw [if_pos (by omega)]
  obtain ⟨u, r, rfl, hhears⟩ := State.hears_body (n := 2 + m.body.length) hservice
    (m.kind :: m.tag :: m.body ++ checkBytes m.head) [] (by simp) (by simp; omega)
  rw [List.nil_append, State.judgeMessage_bytes] at hhears
  have hsame : s.receiving .hunt = s := by rw [← hhunt]; rfl
  rw [hsame] at hhears
  exact ⟨_, hfirst, _, hsecond, hhears⟩

/-- Settles O13: the message's bytes reach the request slot, where the message is carried out as its row is. -/
theorem theBytesOfARequestDoWhatItsRowDoes : Obligations.TheBytesOfARequestDoWhatItsRowDoes := by
  intro c m role s hrow hservice hhunt
  obtain ⟨hbody, act, hact, hexec⟩ := exec_of_requestMessage hrow
  refine ⟨_, State.hears_message hbody hservice hhunt, ?_⟩
  rw [hexec, State.messageArrives, hact]

/-! ### A request that fails a first check (R175) -/

/-- R174 to R176: a request that finds the slot free and fails a check is answered with the check's code, with no notice
posted and no flag raised, and leaves everything but the Local Link as it was. -/
theorem State.request_replies {s : State} (hservice : s.inService = true) (hfree : s.link.slotBusy = false)
    (hempty : s.link.responseStream = []) (kind tag : Byte) {fits : Bool} {role : RequestRole}
    (act : State → State × Answer) {code : ResultCode} (hcheck : s.requestCheck kind fits role = some code) :
    ∃ k, s.request kind tag fits role act = { s with link := k } ∧ s.link.Replies kind tag code [] [] 0 k := by
  obtain ⟨hanswers, hbeside⟩ := State.respond_spec kind tag { code } s.taken rfl hempty
  refine ⟨_, ?_, hanswers, s.taken_beside.trans hbeside⟩
  rw [State.request_refused kind tag fits role act s code hservice hfree hcheck]
  unfold State.respond
  split <;> rfl

/-- Settles O58: an unknown kind fails check 1, and a request of Table 10-4 check 2, 3 or 4. -/
theorem aRequestIsCheckedBeforeItIsCarriedOut : Obligations.ARequestIsCheckedBeforeItIsCarriedOut := by
  refine ⟨?_, ?_⟩
  · intro s kind tag hservice hfree hempty
    refine ⟨fun hsmall => by simp [responseKind, hsmall], ?_⟩
    obtain ⟨k, hrequest, hreplies⟩ := State.request_replies hservice hfree hempty kind tag (fits := false) (role := none)
      State.noRequest rfl
    exact ⟨k, congrArg Host.Outcome.next hrequest, hreplies⟩
  · intro c m role s code hrow hservice hfree hempty hfails
    obtain ⟨-, act, -, hexec⟩ := exec_of_requestMessage hrow
    have hcheck : s.requestCheck m.kind true role = some code := by
      rcases hfails with ⟨hcond, rfl⟩ | ⟨hcond, h1, h2, h7, rfl⟩ | ⟨hcond, ⟨r, rfl, hr⟩, rfl⟩
      · simp [State.requestCheck, hcond]
      · exact (if_neg (by simp)).trans ((if_neg (by simp [hcond])).trans (if_pos ⟨hcond, h1, h2, h7⟩))
      · simp [State.requestCheck, hcond, hr]
    obtain ⟨k, hrequest, hreplies⟩ := State.request_replies hservice hfree hempty m.kind m.tag act hcheck
    exact ⟨k, by rw [hexec, hrequest], hreplies⟩

/-! ### What the port does not take (R173, R174) -/

/-- R174: a request that arrives while the slot is busy. -/
theorem exec_requestWhileBusy {s : State} (hservice : s.inService = true) (hbusy : s.link.slotBusy = true)
    (kind tag : Byte) : exec (.requestWhileBusy kind tag) s = .next ((s.receiving .hunt).answerBusy kind tag) := by
  show execRequestWhileBusy kind tag s = _
  simp [execRequestWhileBusy, hservice, hbusy, State.receiving]

/-- Settles O55, clause by clause. -/
theorem badMessagesAreDiscardedAndBusyRequestsTurnedAway :
    Obligations.BadMessagesAreDiscardedAndBusyRequestsTurnedAway := by
  refine ⟨?_, ?_, ?_, ?_, ?_, ?_⟩
  · intro s hservice
    show execLocalMessageDiscarded s = _
    simp [execLocalMessageDiscarded, hservice, State.discardMessage, State.raise]
  · intro s last hservice hlast
    show execInterByteTimeout s = _
    simp [execInterByteTimeout, hservice, hlast, State.discardMessage, State.raise, State.reach, Config.interByte]
  · intro s b hservice hhunt hb
    rw [exec_llrxByte hservice (by simp [State.byteLate, hhunt, Receiver.lastByte?])]
    simp only [State.takeByte, hhunt]
    rw [if_neg hb]
  · intro s hservice hhunt
    rw [exec_llrxByte hservice (by simp [State.byteLate, hhunt, Receiver.lastByte?])]
    simp [State.takeByte, hhunt]
  · intro s kind tag hservice hbusy hnone
    have hwaiting : s.link.waiting.filterMap Waiting.busy? = [] := (List.append_eq_nil_iff.mp hnone).2
    have hwaits : s.link.busyWaits = false := by
      rw [List.filterMap_eq_nil_iff] at hwaiting
      simp only [Link.busyWaits, List.any_eq_false]
      intro w hw
      cases w with
      | busy m => exact absurd (hwaiting _ hw) (by simp [Waiting.busy?])
      | response m => simp
    have hanswer := exec_requestWhileBusy hservice hbusy kind tag
    rw [State.answerBusy, if_neg (Bool.eq_false_iff.mp (by exact hwaits))] at hanswer
    refine ⟨_, responseKind kind, hanswer, fun hsmall => by simp [responseKind, hsmall], ?_⟩
    have hsending : (s.link.sending? .busy).toList = [] := (List.append_eq_nil_iff.mp hnone).1
    simp only [Link.start_busyStream, Link.start_slotBusy, Link.start_responseStream, Link.start_noticeStream,
      Link.start_flags, Link.start_linkErrors, Link.start_restart]
    refine ⟨?_, hbusy, ?_, rfl, rfl, rfl, rfl⟩
    · show (s.link.sending? .busy).toList ++ (s.link.waiting ++ [_]).filterMap Waiting.busy? = _
      rw [List.filterMap_append, hsending, hwaiting]
      rfl
    · show _ ++ (s.link.waiting ++ [_]).filterMap Waiting.response? ++ _ = _
      rw [List.filterMap_append]
      simp [Link.responseStream, Waiting.response?, Link.sending?, State.receiving]
  · intro s kind tag m hservice hbusy hwaiting
    have hwaits : s.link.busyWaits = true := by
      simp only [Link.busyWaits, List.any_eq_true]
      exact ⟨_, hwaiting, rfl⟩
    rw [exec_requestWhileBusy hservice hbusy, State.answerBusy, if_pos (by exact hwaits)]
    rfl

end Sys2Proof.Machine
end

/-!
PROOFS. Start-up and Configuration: supply and RESET, and the configuration load (R189 to R194).
-/
section

namespace Sys2Proof.Machine

/-! ### Supply and RESET (R160, R188, R194) -/

/-- R191: a load that fails. -/
theorem State.loadFails_posts (s : State) :
    s.loadFails = { s with
      startup := { s.startup with condition := .faultHold, load := .idle }, link := s.link.raise .configFault } ∧
      s.link.Posts [] 0x0400 (s.link.raise .configFault) :=
  ⟨rfl, Link.raise_posts _ _⟩

/-- R189: the straps of a station read, the memory status is read next. -/
theorem State.beginLoad_of_station {straps : Straps} {s : State} (h : straps.station ≠ 0) :
    s.beginLoad straps = { s with
      startup := { s.startup with
        condition := .loading, load := .readingStatus 0
        role := if straps.role then .loader else .chair, station := straps.station.toNat }
      discrete := { s.discrete with latch := if straps.role then s.discrete.latch else none } } := by
  unfold State.beginLoad
  exact if_neg h

/-- R190: a station strap of 0 fails the load at once. -/
theorem State.beginLoad_of_zero {straps : Straps} {s : State} (h : straps.station = 0) :
    s.beginLoad straps = { s with
      startup := { s.startup with
        condition := .faultHold, load := .idle, role := if straps.role then .loader else .chair, station := 0 }
      discrete := { s.discrete with latch := if straps.role then s.discrete.latch else none }
      link := s.link.raise .configFault } := by
  have hzero : straps.station.toNat = 0 := by rw [h]; rfl
  unfold State.beginLoad
  simp only [hzero]
  exact if_pos h

/-- R194: the end of the power-on hold with RESET high. -/
theorem State.exec_powerOnHoldExpiry {s : State} {due : Nat} (straps : Straps) (hpowered : s.startup.powered = true)
    (hhold : s.startup.hold = some due) (hreset : s.startup.resetLow = false) :
    exec (.powerOnHoldExpiry straps) s = .next (State.beginLoad straps
      { s with now := max s.now due, startup := { s.startup with hold := none } }) := by
  show execPowerOnHoldExpiry straps s = _
  simp [execPowerOnHoldExpiry, hpowered, hhold, hreset, State.reach]

/-- Settles O59, clause by clause. -/
theorem supplyAndResetRestartThePart : Obligations.SupplyAndResetRestartThePart := by
  refine ⟨?_, ?_, ?_, ?_, ?_⟩
  · intro s
    refine ⟨s.powerOn, rfl, ?_⟩
    cases hreset : s.startup.resetLow <;>
      simp [State.powerOn, State.enterLoading, State.restartBlocks, State.settleAttn, State.inService, Liu.restart,
        hreset, Config.powerOnHold, Link.judgeAttn, Link.attention, EventFlag.set, EventFlag.bit, maskableFlags]
  · intro s straps due hpowered hhold hreset
    rw [State.exec_powerOnHoldExpiry straps hpowered hhold hreset]
    exact ⟨fun hstation => by rw [State.beginLoad_of_station hstation],
      fun hzero => ⟨s.link.raise .configFault, by rw [State.beginLoad_of_zero hzero], Link.raise_posts _ _⟩⟩
  · intro s hpowered
    show execSupplyFall s = _
    simp [execSupplyFall, hpowered, State.enterLoading, State.restartBlocks, State.inService, Liu.restart]
  · intro s low hpowered hreset
    refine ⟨fun hlow => ?_, fun hshort => ?_⟩
    · show execResetFallFor low s = _
      simp [execResetFallFor, hpowered, hreset, Config.resetPulse, Nat.not_lt.mpr hlow, State.enterLoading,
        State.restartBlocks, State.settleAttn, State.inService, Liu.restart, Link.judgeAttn, EventFlag.set, EventFlag.bit]
    · show execResetFallFor low s = _
      simp [execResetFallFor, Config.resetPulse, hshort]
  · intro s straps hpowered hreset hhold hstation
    show execResetRise straps s = _
    simp [execResetRise, hpowered, hreset, hhold, State.beginLoad_of_station hstation, State.settleAttn, Link.judgeAttn]

/-! ### The configuration load (R190 to R192) -/

/-- R190: bit 0 clear, other than 00h: FFh has bit 0 set. -/
theorem memoryReady_iff (status : Byte) : memoryReady status = true ↔ status.getLsbD 0 = false ∧ status ≠ 0 := by
  have hff : status.getLsbD 0 = false → status ≠ 0xFF := by
    rintro h rfl
    exact absurd h (by decide)
  simp [memoryReady]
  tauto

theorem clampP_spec (b : Nat) :
    clampP b ∈ [50, 80, 100, 125, 160, 200] ∧ (50 ≤ b → clampP b ≤ b) ∧
      (∀ p ∈ [50, 80, 100, 125, 160, 200], p ≤ b → p ≤ clampP b) ∧ (b < 50 → clampP b = 50) := by
  unfold clampP
  simp only [List.mem_cons, List.not_mem_nil, or_false]
  refine ⟨?_, ?_, ?_, ?_⟩
  · split_ifs <;> simp
  · intro h; split_ifs <;> omega
  · rintro p (rfl | rfl | rfl | rfl | rfl | rfl) h <;> split_ifs <;> omega
  · intro h; split_ifs <;> omega

theorem getLsbD_eq_testBit (b : Byte) (i : Nat) : b.getLsbD i = decide (b.toNat / 2 ^ i % 2 = 1) := by
  rw [BitVec.getLsbD, Nat.testBit_eq_decide_div_mod_eq]

theorem inputSettingsOf_eq (b : Byte) : inputSettingsOf b = ⟨b.toNat % 2 = 1, b.toNat / 2 % 2 = 1⟩ := by
  have h0 := getLsbD_eq_testBit b 0
  have h1 := getLsbD_eq_testBit b 1
  simp only [inputSettingsOf, h0, h1, pow_zero, pow_one, Nat.div_one]

theorem mem_seniorSetOf (bs : List Byte) (n : Nat) :
    n ∈ seniorSetOf bs ↔ (1 ≤ n ∧ n ≤ 63 ∧ ∃ b ∈ bs, b.toNat = n) := by
  simp only [seniorSetOf, List.mem_filter, List.mem_map, decide_eq_true_eq]
  tauto

theorem take_four_drop (block : List Byte) (i : Nat) (h : i + 4 ≤ block.length) :
    (block.drop i).take 4 = [block.getD i 0, block.getD (i + 1) 0, block.getD (i + 2) 0, block.getD (i + 3) 0] := by
  apply List.ext_getElem
  · simp; omega
  · intro j hj hj'
    have hj4 : j < 4 := by simpa using hj'
    interval_cases j <;> simp [List.getD_eq_getElem?_getD, show i < block.length by omega,
      show i + 1 < block.length by omega, show i + 2 < block.length by omega, show i + 3 < block.length by omega]


/-! ### A STATE notice (R49, R182) -/

theorem Link.placeNotice_state {n : Notice} {k : Link} (hstate : n.isState = true) (hroom : k.notices.length < 32) :
    k.placeNotice n = { k with
      notices := if k.notices.any Notice.isState then replaceState n k.notices else k.notices ++ [n] } := by
  unfold Link.placeNotice
  cases hany : k.notices.any Notice.isState <;> simp [hstate, Config.noticeQueueSize, hroom]

/-- R49, R182: a STATE notice posted with room. -/
theorem State.postState_spec {s : State} (hroom : s.link.notices.length < 32) :
    s.link.StatePosted s.stateNotice s.postState.link ∧ s.link.SameSlot s.postState.link := by
  have hplaced := Link.placeNotice_state (n := s.stateNotice) (k := s.link) rfl hroom
  refine ⟨?_, State.post_sameSlot _ _⟩
  show s.link.StatePosted s.stateNotice ((s.link.placeNotice s.stateNotice).start s.now)
  rw [hplaced]
  refine ⟨by rw [Link.start_noticeStream]; rfl, by rw [Link.start_busyStream]; rfl, ?_⟩
  simp

/-- R182: the notice queue and the notices to be completed give the notices after a STATE notice. -/
theorem Link.stateStream_congr {n : Notice} {k k' : Link} (hnotices : k'.notices = k.notices)
    (hstream : k'.noticeStream = k.noticeStream) : k'.stateStream n = k.stateStream n := by
  unfold Link.noticeStream at hstream
  rw [hnotices] at hstream
  unfold Link.stateStream
  rw [hnotices, List.append_cancel_right hstream]

/-- R182, R184: before a STATE notice is posted, what posts no notice and raises no flag may happen. -/
theorem Link.StatePosted.after {n : Notice} {k₁ k₂ k₃ : Link} (h : k₁.Beside [] 0 k₂) (h' : k₂.StatePosted n k₃) :
    k₁.StatePosted n k₃ := by
  obtain ⟨hstream, hqueue, hoverflow, herrors, hrestart, hreport, hmark, hmask, hbusy, hflags, hattn⟩ := h
  obtain ⟨hstream', hbusy', hreport', hrestart', hmark', hflags', hmask', hattn', hoverflow', herrors'⟩ := h'
  obtain ⟨hnotices, -, -⟩ := hqueue rfl
  exact ⟨hstream'.trans (Link.stateStream_congr hnotices (by simpa using hstream)), hbusy'.trans hbusy,
    hreport'.trans hreport, hrestart'.trans hrestart, hmark'.trans hmark, hflags'.trans (by simpa using hflags),
    hmask'.trans hmask, hattn'.trans (by simpa using hattn), hoverflow'.trans hoverflow, herrors'.trans herrors⟩

/-- R27, R49: STATUS and STATE notice given by an active part with room in the notice queue. -/
theorem State.announce_spec {s : State} (hactive : s.active = true) (hroom : s.link.notices.length < 32) :
    s.announce = { s with liu := s.announce.liu, link := s.announce.link } ∧
      Liu.Joined s.statusFrame s.liu s.announce.liu ∧ s.link.StatePosted s.stateNotice s.announce.link ∧
      s.link.SameSlot s.announce.link ∧ s.link.Runs s.announce.link := by
  obtain ⟨hframe, hjoined⟩ := State.sendStatus_spec hactive
  unfold State.announce
  rw [hframe]
  obtain ⟨hposted, hslot⟩ := State.postState_spec (s := { s with liu := s.sendStatus.liu }) hroom
  exact ⟨rfl, hjoined, hposted, hslot, State.runs_post _ { s with liu := s.sendStatus.liu }⟩

/-! ### Activation (R21, R24, R119, R188) -/

/-- R190: the settings block of a good check is taken. -/
def State.configured (block : List Byte) (s : State) : State :=
  { s with startup := { s.startup with
      settings := decodeSettings s.startup.role block s.startup.settings, condition := .running, load := .idle } }

theorem exec_settingsBlockRead {s : State} {block : List Byte} (hservice : s.inService = true)
    (hload : s.startup.load = .readingBlock) :
    exec (.settingsBlockRead block) s =
      .next (if checkBytes (block.take 48) = block.drop 48 then (s.configured block).activate else s.loadFails) := by
  show execSettingsBlockRead block s = _
  simp [execSettingsBlockRead, hservice, hload, blockAgrees, State.loadSucceeds, State.configured]

/-- R20, R24, R119: a loader becomes active: before its STATUS and its STATE notice. -/
def State.awake (s : State) : State :=
  { s with
    liu := s.liu.activate s.now
    discrete := { s.discrete with nextSample := some (s.now + ms 5) }
    envelope := { s.envelope with timer := some (s.now + s.periods 1) } }

theorem State.activate_of_loader {s : State} (hrole : s.startup.role = .loader) :
    s.activate = if s.discrete.latch.isSome then s.awake.announce.raise .stopSet else s.awake.announce := by
  have hlatch : s.awake.announce.discrete.latch = s.discrete.latch := by simp [State.awake]
  rw [← hlatch]
  unfold State.activate
  simp only [hrole]
  rfl

/-- R190: under a block of a good check a loader is active, its STATUS and STATE notice given. -/
theorem State.activate_loader_spec {s : State} (hactive : s.active = true) (hrole : s.startup.role = .loader)
    (hroom : s.link.notices.length < 32) :
    ∃ t, s.activate = t ∧ t = { s.awake with liu := t.liu, link := t.link } ∧
      Liu.Joined s.awake.statusFrame s.awake.liu t.liu ∧
      t.link.flags = (if s.discrete.latch.isSome then s.link.flags ||| 0x0004 else s.link.flags) ∧
      t.link.noticeStream = s.link.stateStream s.stateNotice := by
  obtain ⟨hframe, hjoined, ⟨hstream, -, -, -, -, hflags, -⟩, -, -⟩ := State.announce_spec (s := s.awake) hactive hroom
  rw [State.activate_of_loader hrole]
  split
  · refine ⟨_, rfl, ?_, by simpa using hjoined, ?_, hstream⟩
    · conv_lhs => rw [hframe]
      rfl
    · simp only [State.raise_link, Link.raise_flags, hflags]
      rfl
  · exact ⟨_, rfl, hframe, hjoined, hflags, hstream⟩

/-- Settles O60, clause by clause. -/
theorem theConfigurationLoadRuns : Obligations.TheConfigurationLoadRuns := by
  refine ⟨?_, ?_, ?_, ?_⟩
  · intro s status tries hservice hload
    have hexec : exec (.memoryStatusRead status) s = .next
        (if memoryReady status then { s with startup := { s.startup with load := .readingBlock } }
        else if tries + 1 < 10 then
          { s with startup := { s.startup with load := .waiting (tries + 1) (s.now + ms 5) } }
        else s.loadFails) := by
      show execMemoryStatusRead status s = _
      simp [execMemoryStatusRead, hservice, hload, Config.memoryTries, Config.memoryRetry] <;> rfl
    have hunready (h : status.getLsbD 0 = true ∨ status = 0) : ¬ memoryReady status = true := by
      rw [memoryReady_iff]
      rintro ⟨hbit, hzero⟩
      exact h.elim (fun hset => absurd hbit (by simp [hset])) hzero
    refine ⟨fun hbit hzero => ?_, fun h htries => ?_, fun h htries => ?_⟩
    · rw [hexec, if_pos ((memoryReady_iff status).mpr ⟨hbit, hzero⟩)]
    · rw [hexec, if_neg (hunready h), if_pos (by omega)]
    · refine ⟨s.link.raise .configFault, ?_, Link.raise_posts _ _⟩
      rw [hexec, if_neg (hunready h), if_neg (by omega)]
      rfl
  · intro s tries due hservice hload
    show execMemoryRetryExpiry s = _
    simp [execMemoryRetryExpiry, hservice, hload, State.reach]
  · intro s block hservice hload hlength
    rw [exec_settingsBlockRead hservice hload]
    refine ⟨fun hbad => ?_, fun hgood hrole => ?_, fun hgood hrole hroom => ?_⟩
    · refine ⟨s.link.raise .configFault, ?_, Link.raise_posts _ _⟩
      rw [if_neg hbad]
      rfl
    · rw [if_pos hgood]
      have hchair : (s.configured block).startup.role = .chair := hrole
      simp only [State.activate, hchair, State.activateChair]
      simp [State.configured, hrole, Liu.activate, State.periods, State.settings, Config.samplePeriod,
        Config.lineBlocked]
    · have hactive : (s.configured block).active = true := by
        have hin : (s.configured block).inService = true := hservice
        simp [State.active, hin]
        rfl
      obtain ⟨t, hactivate, hframe, ⟨hliu, -⟩, hflags, hstream⟩ :=
        State.activate_loader_spec (s := s.configured block) hactive hrole hroom
      refine ⟨t, by rw [if_pos hgood, hactivate], ?_⟩
      have hreceived : t.liu.receiving = s.liu.receiving ∧ t.liu.rxBuffer = s.liu.rxBuffer ∧
          t.liu.rxCount = s.liu.rxCount ∧ t.liu.blocked = (if s.liu.lcd then some (s.now + sec 2) else none) := by
        rw [hliu]
        exact ⟨rfl, rfl, rfl, rfl⟩
      obtain ⟨hreceiving, hbuffer, hcount, hblocked⟩ := hreceived
      refine ⟨?_, ?_, ?_, ?_, hreceiving, hbuffer, hcount, hblocked, hflags, ?_⟩
      all_goals rw [hframe]
      · simp [State.awake, State.configured, hrole]
      · rfl
      · simp [State.awake, State.configured, State.periods, State.settings]
      · rfl
      · rw [hstream]
        rfl
  · intro block old hlength
    have hset (n : Nat) : n ∈ (decodeSettings .loader block old).seniorSet ↔
        (1 ≤ n ∧ n ≤ 63 ∧ (n = (block.getD 14 0).toNat ∨ n = (block.getD 15 0).toNat ∨ n = (block.getD 16 0).toNat ∨
          n = (block.getD 17 0).toNat)) := by
      show n ∈ seniorSetOf ((block.drop 14).take 4) ↔ _
      rw [mem_seniorSetOf, take_four_drop block 14 (by omega)]
      simp [eq_comm]
    have hinput (i : Nat) := inputSettingsOf_eq (block.getD i 0)
    obtain ⟨hmem, hle, hmax, hlow⟩ := clampP_spec (block.getD 0 0).toNat
    refine ⟨⟨hmem, hle, hmax, hlow, rfl, rfl, rfl, hinput 18, hinput 19, hinput 20, hinput 21⟩, rfl, rfl, rfl, rfl, rfl,
      rfl, rfl, hset, rfl, rfl, rfl, ⟨hmem, hle, hmax, hlow, rfl, rfl, rfl, hinput 18, hinput 19, hinput 20, hinput 21⟩,
      rfl, rfl, decide_eq_true_iff, rfl, rfl, rfl, rfl, rfl, rfl, rfl, rfl⟩

end Sys2Proof.Machine
end

/-!
PROOFS. The Local Link: the requests it carries out itself, the completion of a message, and a requested restart (R174 to
R187, R193).
-/
section

namespace Sys2Proof.Machine

/-! ### A request that passes the checks (R174 to R176) -/

/-- R174, R175: a request of a kind finds the slot free and passes the checks 1 to 4. -/
def State.Admits (kind : Byte) (role : RequestRole) (s : State) : Prop :=
  s.inService = true ∧ s.link.slotBusy = false ∧ s.link.responseStream = [] ∧ s.requestCheck kind true role = none

theorem State.Awaits.admits {role : RequestRole} {s : State} (h : s.Awaits role) (kind : Byte) : s.Admits kind role := by
  obtain ⟨hservice, hfree, hempty, hrunning, hrole⟩ := h
  refine ⟨hservice, hfree, hempty, ?_⟩
  rcases hrole with rfl | rfl <;> simp [State.requestCheck, hrunning]

theorem State.AwaitsInFault.admits {s : State} (h : s.AwaitsInFault) {kind : Byte}
    (hkind : kind = 0x01 ∨ kind = 0x02 ∨ kind = 0x07) : s.Admits kind none := by
  obtain ⟨hservice, hfree, hempty, hfault⟩ := h
  refine ⟨hservice, hfree, hempty, ?_⟩
  rcases hkind with rfl | rfl | rfl <;> simp [State.requestCheck, hfault]

/-- R176, R180: the response to a request goes to an idle transmitter with nothing else waiting, and leaves one that is
sending. -/
theorem State.respond_tx (kind tag : Byte) (a : Answer) (s : State) :
    s.link.Runs (s.respond kind tag a).link ∧
      (s.link.tx = none → s.link.unsentRecord = none → s.link.waiting = [] →
        (s.respond kind tag a).link.tx.map (·.what) = some .response) := by
  unfold State.respond
  split
  · next hnil => exact absurd hnil (responseMessages_ne_nil kind tag a.code a.contents)
  · next m rest _ =>
    refine ⟨?_, fun htx hrecord hwaiting => by simp [Link.start, htx, hrecord, hwaiting]⟩
    have hwaits : s.link.Runs { s.link with parts := rest, waiting := s.link.waiting ++ [.response m] } :=
      ⟨rfl, fun _ => id⟩
    exact hwaits.trans (Link.runs_start _ _)

/-- R174, R176: a request that passes the checks is carried out by `act`, and answered with the answer of `act`. -/
theorem State.Admits.carried {kind : Byte} {role : RequestRole} {s : State} (h : s.Admits kind role) (tag : Byte)
    (act : State → State × Answer) (hsame : s.taken.link.SameSlot (act s.taken).1.link) :
    ∃ k, s.request kind tag true role act = { (act s.taken).1 with link := k } ∧
      k.Answers kind tag (act s.taken).2.code (act s.taken).2.contents ∧
      (act s.taken).1.link.Beside [] 0 k ∧ (act s.taken).1.link.Runs k ∧
      ((act s.taken).1.link.tx = none → (act s.taken).1.link.unsentRecord = none → (act s.taken).1.link.waiting = [] →
        k.tx.map (·.what) = some .response) := by
  obtain ⟨hservice, hfree, hempty, hcheck⟩ := h
  have hrequest : s.request kind tag true role act = (act s.taken).1.respond kind tag (act s.taken).2 := by
    have hcheck' : State.requestCheck kind true role s.taken = none := hcheck
    unfold State.taken at hcheck' ⊢
    simp only [State.request, hservice, hfree]
    simp [hcheck']
  obtain ⟨hslot, hresponse, _⟩ := hsame
  obtain ⟨hanswers, hbeside⟩ := State.respond_spec kind tag (act s.taken).2 (act s.taken).1 hslot
    (hresponse.trans hempty)
  obtain ⟨hruns, hidle⟩ := State.respond_tx kind tag (act s.taken).2 (act s.taken).1
  refine ⟨_, ?_, hanswers, hbeside, hruns, hidle⟩
  rw [hrequest]
  unfold State.respond
  split <;> rfl

/-! ### READ_FLAGS and SET_MASK (R186, R187) -/

/-- With ATTN judged, what follows without a flag leaves it judged. -/
theorem Link.Beside.attn_judged {k k' : Link} (h : k.Beside [] 0 k') (hjudged : k.attn = k.attention) :
    k'.attn = k'.attention := by
  obtain ⟨-, -, -, -, -, -, -, hmask, -, hflags, hattn⟩ := h
  simpa [Link.attention, hmask, hflags, hjudged] using hattn

theorem Link.unsentNotices_eq (k : Link) : k.unsentNotices = k.noticeStream.length := by
  unfold Link.unsentNotices Link.noticeStream Link.sending?
  cases htx : k.tx with
  | none => simp
  | some x => cases hwhat : x.what <;> simp [hwhat]

/-- R181: a transmitter that sends, or has nothing to send, starts nothing. -/
theorem Link.start_of_sending {k : Link} (now : Nat) (h : k.tx.isSome = true) : k.start now = k := by
  obtain ⟨x, hx⟩ := Option.isSome_iff_exists.mp h
  simp [Link.start, hx]

theorem Link.start_of_quiet {k : Link} (now : Nat) (htx : k.tx = none) (hrecord : k.unsentRecord = none)
    (hwaiting : k.waiting = []) (h : k.notices = [] ∨ k.credit = 0) : k.start now = k := by
  rcases h with h | h
  · simp [Link.start, htx, hrecord, hwaiting, h]
  · cases hnotices : k.notices <;> simp [Link.start, htx, hrecord, hwaiting, h, hnotices]

theorem Link.start_of_notice {k : Link} {n : Notice} {rest : List Notice} (now : Nat) (htx : k.tx = none)
    (hrecord : k.unsentRecord = none) (hwaiting : k.waiting = []) (h : k.notices = n :: rest) (hcredit : 0 < k.credit) :
    k.start now = { k with
      notices := rest, credit := k.credit - 1, noticeNumber := k.noticeNumber + 1
      tx := some ⟨.notice, ⟨n.code, k.noticeNumber, n.body⟩, now⟩ } := by
  simp [Link.start, htx, hrecord, hwaiting, h, hcredit]

theorem Link.start_of_record {k : Link} {r : CommandRecord} (now : Nat) (htx : k.tx = none)
    (hrecord : k.unsentRecord = some r) :
    k.start now = { k with
      unsentRecord := none, recordNumber := k.recordNumber + 1
      tx := some ⟨.record, ⟨0x70, k.recordNumber, r.body⟩, now⟩ } := by
  simp [Link.start, htx, hrecord]

theorem Link.start_of_response {k : Link} {m : Message} {rest : List Waiting} (now : Nat) (htx : k.tx = none)
    (hrecord : k.unsentRecord = none) (hwaiting : k.waiting = .response m :: rest) :
    k.start now = { k with waiting := rest, tx := some ⟨.response, m, now⟩ } := by
  simp [Link.start, htx, hrecord, hwaiting]

theorem Link.start_of_busy {k : Link} {m : Message} {rest : List Waiting} (now : Nat) (htx : k.tx = none)
    (hrecord : k.unsentRecord = none) (hwaiting : k.waiting = .busy m :: rest) :
    k.start now = { k with waiting := rest, tx := some ⟨.busy, m, now⟩ } := by
  simp [Link.start, htx, hrecord, hwaiting]

/-- R181: ADD_CREDIT: the credit, the start of the transmitter that leads to a link `k₀`, and the response. -/
theorem exec_addCredit {s : State} {k₀ : Link} (tag n : Byte) (h : s.Admits 0x04 none)
    (hstart : Link.start s.now { s.taken.link with credit := min 255 (s.link.credit + n.toNat) } = k₀) :
    ∃ k, exec (.addCredit tag n) s = .next { s with link := k } ∧
      k.Answers 0x04 tag .ok [byte (min 255 (s.link.credit + n.toNat))] ∧ k₀.Beside [] 0 k ∧ k₀.Runs k ∧
      (k₀.tx = none → k₀.unsentRecord = none → k₀.waiting = [] → k.tx.map (·.what) = some .response) := by
  have hcarried : State.addCredit n s.taken =
      ({ s with link := k₀ }, { code := .ok, contents := [byte (min 255 (s.link.credit + n.toNat))] }) := by
    rw [← hstart]
    rfl
  have hsame : s.taken.link.SameSlot (State.addCredit n s.taken).1.link := by
    rw [hcarried, ← hstart]
    refine ⟨by simp, ?_, by simp⟩
    rw [Link.start_responseStream]
    rfl
  obtain ⟨k, hrequest, hanswers, hbeside, hruns, hidle⟩ := h.carried tag (State.addCredit n) hsame
  rw [hcarried] at hrequest hanswers hbeside hruns hidle
  exact ⟨k, congrArg Host.Outcome.next hrequest, hanswers, hbeside, hruns, hidle⟩

/-- R183: a MARK that waits for the notices ahead of it. -/
theorem State.placeMark_of_notices {s : State} (hmark : s.link.mark = none) (hnotices : s.link.noticeStream ≠ []) :
    s.placeMark = ({ s with link := { s.link with mark := some s.link.noticeStream.length } },
      { code := .ok, contents := [byte s.link.noticeStream.length] }) := by
  simp [State.placeMark, hmark, hnotices, Link.unsentNotices_eq]

/-- Settles O56, request by request. -/
theorem flagsMaskCreditAndMark : Obligations.FlagsMaskCreditAndMark := by
  intro s tag
  refine ⟨?_, ?_, ?_, ?_⟩
  · intro named h
    obtain ⟨k, hrequest, hanswers, hbeside, -, -⟩ := State.Admits.carried (kind := 0x02) (role := none) (s := s)
      (h.elim (·.admits 0x02) (·.admits (.inr (.inl rfl)))) tag (State.readFlags named) ⟨rfl, rfl, rfl⟩
    have hattn := hbeside.attn_judged rfl
    obtain ⟨hstream, hqueue, -, herrors, hrestart, hreport, hmark, hmask, -, hflags, -⟩ := hbeside
    obtain ⟨-, hcredit, -⟩ := hqueue rfl
    refine ⟨k, congrArg Host.Outcome.next hrequest, hanswers, ?_, hmask, hattn, hstream.trans (List.append_nil _),
      hcredit, hmark, hreport, herrors, hrestart⟩
    rw [hflags]
    by_cases hfault : s.startup.condition = .faultHold <;>
      simp [State.readFlags, State.taken, Link.clearFlags, Link.judgeAttn, hfault, EventFlag.set, EventFlag.bit]
  · intro named h
    obtain ⟨k, hrequest, hanswers, hbeside, -, -⟩ := (h.admits 0x03).carried tag (State.setMask named) ⟨rfl, rfl, rfl⟩
    have hattn := hbeside.attn_judged rfl
    obtain ⟨hstream, hqueue, -, herrors, hrestart, hreport, hmark, hmask, -, hflags, -⟩ := hbeside
    obtain ⟨-, hcredit, -⟩ := hqueue rfl
    exact ⟨k, congrArg Host.Outcome.next hrequest, hanswers, hmask, hflags.trans (by simp [State.setMask]; rfl), hattn,
      hstream.trans (List.append_nil _), hcredit, hmark, hreport, herrors, hrestart⟩
  · intro n h
    have hadmits := h.admits 0x04
    refine ⟨fun htx => ?_, fun x rest htx hrecord hwaiting hnotices hpositive => ?_,
      fun htx hrecord hwaiting hquiet => ?_⟩
    · obtain ⟨k, hexec, hanswers, hbeside, -, -⟩ := exec_addCredit tag n hadmits
        (Link.start_of_sending s.now (by exact htx))
      obtain ⟨-, hqueue, -, -, -, -, hmark, -, -, hflags, -⟩ := hbeside
      obtain ⟨hnotices, hcredit, hnumber⟩ := hqueue rfl
      exact ⟨k, hexec, hanswers, hcredit, hnotices, by simpa [State.taken] using hflags, hnumber, hmark⟩
    · obtain ⟨k, hexec, hanswers, hbeside, hruns, -⟩ := exec_addCredit tag n hadmits
        (Link.start_of_notice s.now htx hrecord hwaiting hnotices (by simp; omega))
      obtain ⟨-, hqueue, -, -, -, -, hmark, -, -, hflags, -⟩ := hbeside
      obtain ⟨hnotices, hcredit, hnumber⟩ := hqueue rfl
      exact ⟨k, hexec, hanswers, hcredit, hnotices, hnumber, hruns.sending _ rfl, by simpa [State.taken] using hflags⟩
    · obtain ⟨k, hexec, hanswers, hbeside, -, hidle⟩ := exec_addCredit tag n hadmits
        (Link.start_of_quiet s.now htx hrecord hwaiting (hquiet.imp id fun hzero => by simp [hzero]))
      obtain ⟨-, hqueue, -, -, -, -, hmark, -, -, hflags, -⟩ := hbeside
      obtain ⟨hnotices, hcredit, hnumber⟩ := hqueue rfl
      exact ⟨k, hexec, hanswers, hcredit, hnotices, hnumber, hidle htx hrecord hwaiting,
        by simpa [State.taken] using hflags, hmark⟩
  · intro h
    refine ⟨fun hmark => ?_, fun hmark hnone => ?_, fun hmark hsome => ?_⟩
    · have hbusy : State.placeMark s.taken = (s.taken, { code := .busy }) := if_pos hmark
      obtain ⟨k, hrequest, hanswers, hbeside⟩ := State.request_answered 0x05 tag h (act := State.placeMark)
        (by rw [hbusy]; exact ⟨rfl, rfl, rfl⟩)
      rw [hbusy] at hrequest hanswers hbeside
      exact ⟨k, congrArg Host.Outcome.next hrequest, hanswers, hbeside _ _ (.refl _)⟩
    · have hdone : State.placeMark s.taken = (s.taken.raise .markDone, { code := .ok, contents := [0] }) := by
        have hzero : s.taken.link.unsentNotices = 0 := by
          rw [Link.unsentNotices_eq]
          exact congrArg List.length hnone
        have hfree : s.taken.link.mark = none := hmark
        simp [State.placeMark, hfree, hzero]
      obtain ⟨k, hrequest, hanswers, hbeside⟩ := State.request_answered 0x05 tag h (act := State.placeMark)
        (by rw [hdone]; exact ⟨rfl, rfl, rfl⟩)
      rw [hdone] at hrequest hanswers hbeside
      exact ⟨k, congrArg Host.Outcome.next hrequest, hanswers, hbeside _ _ (Link.raise_posts .markDone _).1⟩
    · have hpending := State.placeMark_of_notices (s := s.taken) hmark hsome
      obtain ⟨k, hrequest, hanswers, hbeside, -, -⟩ := (h.admits 0x05).carried tag State.placeMark
        (by rw [hpending]; exact ⟨rfl, rfl, rfl⟩)
      rw [hpending] at hrequest hanswers hbeside
      obtain ⟨hstream, hqueue, -, -, -, -, hplaced, -, -, hflags, -⟩ := hbeside
      obtain ⟨-, hcredit, -⟩ := hqueue rfl
      exact ⟨k, congrArg Host.Outcome.next hrequest, hanswers, hplaced, hstream.trans (List.append_nil _),
        by simpa [State.taken] using hflags, hcredit⟩

/-! ### RESTART (R178, R193) -/

/-- R178: a RESTART that is taken is kept until its response has been sent. -/
theorem exec_restart {s : State} {c : Instr} {tag : Byte} {act : State → State × Answer} {r : RequestedRestart}
    (hexec : exec c s = .next (s.request 0x07 tag true none act)) (h : s.Admits 0x07 none)
    (hact : act s.taken = ({ s.taken with link := { s.taken.link with restart := some r } }, { code := .ok })) :
    ∃ k, exec c s = .next { s with link := k } ∧ k.Answers 0x07 tag .ok [] ∧
      k.restart = some r ∧ k.flags = s.link.flags ∧ k.noticeStream = s.link.noticeStream := by
  obtain ⟨k, hrequest, hanswers, hbeside, -, -⟩ := h.carried tag act (by rw [hact]; exact ⟨rfl, rfl, rfl⟩)
  rw [hact] at hrequest hanswers hbeside
  obtain ⟨hstream, -, -, -, hrestart, -, -, -, -, hflags, -⟩ := hbeside
  exact ⟨k, by rw [hexec, hrequest]; rfl, hanswers, hrestart, by simpa [State.taken] using hflags,
    hstream.trans (List.append_nil _)⟩

/-- R178: a soft RESTART is taken but in FAULT-HOLD. -/
theorem State.askRestart_soft {s : State} (h : s.startup.condition ≠ .faultHold) :
    s.askRestart 1 = ({ s with link := { s.link with restart := some .soft } }, { code := .ok }) := by
  simp [State.askRestart, h]

/-- R178, R191: a soft RESTART in FAULT-HOLD is answered CONFIG_FAULT. -/
theorem State.AwaitsInFault.restartSoft {s : State} (h : s.AwaitsInFault) (tag : Byte) :
    ∃ k, exec (.restartSoft tag) s = .next { s with link := k } ∧
      s.link.Replies 0x07 tag .configFault [] [] 0 k := by
  have hfault : State.askRestart 1 s.taken = (s.taken, { code := .configFault }) := by
    obtain ⟨-, -, -, hcondition⟩ := h
    have hcondition' : s.taken.startup.condition = .faultHold := hcondition
    simp [State.askRestart, hcondition']
  obtain ⟨k, hrequest, hanswers, hbeside, -, -⟩ := (h.admits (kind := 0x07) (.inr (.inr rfl))).carried tag
    (State.askRestart 1) (by rw [hfault]; exact ⟨rfl, rfl, rfl⟩)
  rw [hfault] at hrequest hanswers hbeside
  exact ⟨k, congrArg Host.Outcome.next hrequest, hanswers, s.taken_beside.trans hbeside⟩

theorem State.exec_messageSent {s : State} {x : Transmission} (straps : Straps) (hservice : s.inService = true)
    (htx : s.link.tx = some x) : exec (.messageSent straps) s = .next (s.messageSent straps x) := by
  show execMessageSent straps s = _
  simp [execMessageSent, hservice, htx]

/-- R174, R178: the state in which a requested restart begins: the last message of the response has been sent. -/
def State.responseOver (now : Nat) (s : State) : State :=
  { s with now, link := { s.link with tx := none, slotBusy := false } }

/-- R178: the last message of the response sent, a requested restart begins. -/
theorem State.messageSent_restarts {s : State} {x : Transmission} {r : RequestedRestart} (straps : Straps)
    (hwhat : x.what = .response) (hparts : s.link.parts = []) (hrestart : s.link.restart = some r) :
    s.messageSent straps x = State.requestedRestart r straps (s.responseOver (max s.now x.endsAt)) := by
  simp [State.messageSent, hwhat, Link.sent, Link.responseSent, hparts, hrestart, State.reach, State.responseOver]

/-- R174, R178: with no restart to begin the transmitter chooses the next message. -/
theorem State.messageSent_goesOn {s : State} {x : Transmission} (straps : Straps)
    (h : (s.link.sent x.what).restart = none ∨ (s.link.sent x.what).slotBusy = true) :
    s.messageSent straps x =
      { s with
        now := max s.now x.endsAt, link := Link.start (max s.now x.endsAt) (s.link.sent x.what) } := by
  rcases h with h | h <;> simp [State.messageSent, State.reach, h]

/-- R181: with no credit a start takes no notice, and so the credit stays. -/
theorem Link.start_credit_zero {k : Link} (now : Nat) (h : k.credit = 0) : (k.start now).credit = 0 := by
  rcases k.start_cases now with e | ⟨_, _, _, e⟩ | ⟨_, _, _, _, _, e⟩ | ⟨_, _, _, _, _, e⟩ | ⟨_, _, _, _, _, hc, _, e⟩
  all_goals
    rw [e]
    simp_all

/-- R27, R49: of the Local Link a STATUS and a STATE notice change what the notice does. -/
theorem State.announce_link {s : State} (hactive : s.active = true) :
    s.announce.link = (s.link.placeNotice s.stateNotice).start s.now := by
  obtain ⟨hframe, -⟩ := State.sendStatus_spec hactive
  unfold State.announce
  rw [hframe]
  rfl

theorem Link.placeNotice_credit (n : Notice) (k : Link) : (k.placeNotice n).credit = k.credit := by
  rw [Link.placeNotice_frame]

/-- R181: an activation without credit leaves the slot and the credit. -/
theorem State.activate_link {s : State} (hactive : s.active = true) (hcredit : s.link.credit = 0) :
    s.activate.link.slotBusy = s.link.slotBusy ∧ s.activate.link.credit = 0 := by
  cases hrole : s.startup.role with
  | chair =>
    simp only [State.activate, hrole]
    exact ⟨rfl, hcredit⟩
  | loader =>
    have hlink : s.awake.announce.link = _ := State.announce_link (s := s.awake) hactive
    rw [State.activate_of_loader hrole]
    split <;>
    · simp only [State.raise_link, Link.raise_slotBusy, Link.raise_credit, hlink, Link.start_slotBusy,
        Link.placeNotice_slotBusy]
      exact ⟨rfl, Link.start_credit_zero _ (by rw [Link.placeNotice_credit]; exact hcredit)⟩

/-- R21, R137, R188: what an activation leaves. -/
theorem State.activate_frame {s : State} (hactive : s.active = true) :
    s.activate = { s with
      liu := s.activate.liu, envelope := s.activate.envelope, relay := s.activate.relay
      discrete := { s.discrete with nextSample := some (s.now + ms 5) }, link := s.activate.link } ∧
      s.activate.envelope.cap = s.envelope.cap ∧
      s.activate.liu.lcd = s.liu.lcd ∧ s.activate.liu.lkey = s.liu.lkey ∧ s.activate.liu.sequence = s.liu.sequence ∧
      s.activate.liu.receiving = s.liu.receiving ∧ s.activate.liu.rxBuffer = s.liu.rxBuffer ∧
      s.activate.liu.rxCount = s.liu.rxCount := by
  cases hrole : s.startup.role with
  | chair =>
    simp only [State.activate, hrole]
    exact ⟨rfl, rfl, rfl, rfl, rfl, rfl, rfl, rfl⟩
  | loader =>
    obtain ⟨hframe, ⟨hliu, -⟩⟩ := State.sendStatus_spec (s := s.awake) hactive
    have hannounce : s.awake.announce = { s.awake with
        liu := s.awake.sendStatus.liu, link := (s.link.placeNotice s.stateNotice).start s.now } := by
      unfold State.announce
      rw [hframe]
      rfl
    rw [State.activate_of_loader hrole, hannounce]
    split <;>
    · refine ⟨rfl, rfl, ?_⟩
      simp only [State.raise_liu]
      rw [hliu]
      exact ⟨rfl, rfl, rfl, rfl, rfl, rfl⟩

/-- R193: the state after a soft restart of a RUNNING unit. -/
theorem State.softRestart_of_running {s : State} (h : s.startup.condition = .running) :
    s.softRestart = s.restartBlocks.activate := if_pos h

/-- R183: a pending mark after a message has been sent. -/
def Link.markMoved (what : TxWhat) (k : Link) : Link :=
  match k.mark with
  | none => k
  | some n =>
    if what ≠ .notice then k
    else if 2 ≤ n then { k with mark := some (n - 1) }
    else Link.raise .markDone { k with mark := none }

/-- R174, R176: the messages that wait after one has been sent: the next part of the response takes the last place. -/
def Link.waitingAfter (what : TxWhat) (k : Link) : List Waiting :=
  k.waiting ++ (if decide (what = .response) then k.parts.head?.toList.map .response else [])

/-- R174, R176, R183: a link after a message has been sent. -/
def Link.ended (what : TxWhat) (k : Link) : Link :=
  { k.markMoved what with
    tx := none, waiting := k.waitingAfter what
    parts := if decide (what = .response) then k.parts.tail else k.parts
    slotBusy := k.slotBusy && !(decide (what = .response) && k.parts.isEmpty) }

/-- R174, R176, R183: what the completion of a message does. -/
theorem Link.sent_eq (what : TxWhat) (k : Link) : k.sent what = k.ended what := by
  unfold Link.ended
  have hkept (h : what ≠ .notice) : k.markMoved what = k := by
    unfold Link.markMoved
    cases k.mark <;> simp [h]
  cases what with
  | response =>
    rw [hkept (by simp)]
    cases hparts : k.parts <;> simp [Link.sent, Link.responseSent, Link.waitingAfter, hparts]
  | busy => rw [hkept (by simp)]; simp [Link.sent, Link.waitingAfter]
  | record => rw [hkept (by simp)]; simp [Link.sent, Link.waitingAfter]
  | notice =>
    simp only [Link.sent, Link.noticeSent, Link.markMoved, Link.waitingAfter]
    cases hmark : k.mark with
    | none => simp [hmark]
    | some n =>
      by_cases hn : n ≤ 1
      · simp [hn, show ¬ 2 ≤ n by omega, Link.raise, Link.judgeAttn, Link.attention]
      · simp [hn, show 2 ≤ n by omega]

theorem Link.markMoved_frame (what : TxWhat) (k : Link) :
    k.markMoved what = { k with
      mark := (k.markMoved what).mark, flags := (k.markMoved what).flags, attn := (k.markMoved what).attn } := by
  unfold Link.markMoved
  split
  · rfl
  · split
    · rfl
    · split <;> rfl

/-- R180, R181: the completion of a message leaves the unsent record, the notices, the credit and the numbers. -/
theorem Link.ended_stream (what : TxWhat) (k : Link) :
    (k.ended what).unsentRecord = k.unsentRecord ∧ (k.ended what).recordNumber = k.recordNumber ∧
      (k.ended what).notices = k.notices ∧ (k.ended what).credit = k.credit ∧
      (k.ended what).noticeNumber = k.noticeNumber ∧ (k.ended what).restart = k.restart := by
  unfold Link.ended
  rw [Link.markMoved_frame]
  exact ⟨rfl, rfl, rfl, rfl, rfl, rfl⟩

/-- Settles O57: the requests for a restart, the restarts, and the completions that go on. -/
theorem aMessageSentMakesWayForTheNextOrForARestart : Obligations.AMessageSentMakesWayForTheNextOrForARestart := by
  refine ⟨?_, ?_, ?_⟩
  · intro s tag
    exact ⟨fun h => exec_restart rfl (h.admits 0x07) (State.askRestart_soft (by
        obtain ⟨-, -, -, hrunning, -⟩ := h
        show s.startup.condition ≠ .faultHold
        simp [hrunning])),
      fun h => exec_restart rfl (h.elim (·.admits 0x07) (·.admits (.inr (.inr rfl)))) rfl,
      fun h => h.restartSoft tag⟩
  · intro s straps x hservice htx hwhat hparts
    have hexec := State.exec_messageSent straps hservice htx
    refine ⟨fun hsoft hrunning => ?_, fun hfull => ?_⟩
    · set u := s.responseOver (max s.now x.endsAt) with hu
      have hactive : u.restartBlocks.active = true := by
        have hin : u.restartBlocks.inService = true := hservice
        have hcondition : u.restartBlocks.startup.condition = .running := hrunning
        simp [State.active, hin, hcondition]
      obtain ⟨hslot, hcredit⟩ := State.activate_link hactive rfl
      obtain ⟨hframe, hcap, hlcd, hlkey, hsequence, hreceiving, hbuffer, hcount⟩ := State.activate_frame hactive
      have hrestarted : s.messageSent straps x = u.restartBlocks.activate := by
        rw [State.messageSent_restarts straps hwhat hparts hsoft]
        exact State.softRestart_of_running hrunning
      have hin : u.inService = true := hservice
      have hreceives : u.restartBlocks.liu.receiving = (s.liu.lkey && s.liu.lcd) := by
        show (u.inService && s.liu.lkey && s.liu.lcd) = _
        rw [hin, Bool.true_and]
      have hblocks : u.restartBlocks.activate.now = max s.now x.endsAt ∧
          u.restartBlocks.activate.startup = s.startup ∧ u.restartBlocks.activate.record = {} ∧
          u.restartBlocks.activate.holds = {} ∧ u.restartBlocks.activate.board = {} ∧
          u.restartBlocks.activate.discrete.latch = s.discrete.latch ∧
          u.restartBlocks.activate.discrete.motionEnable = false ∧ u.restartBlocks.activate.active = true := by
        rw [hframe]
        exact ⟨rfl, rfl, rfl, rfl, rfl, rfl, rfl, hactive⟩
      obtain ⟨hnow, hstartup, hrecord, hholds, hboard, hlatch, hmotion, hagain⟩ := hblocks
      exact ⟨_, by rw [hexec, hrestarted], hnow, hstartup, hrecord, hholds, hboard, hlatch, hmotion, hcap, hslot, hcredit,
        hsequence, hlkey, ⟨hlcd, hreceiving.trans hreceives, hbuffer, hcount⟩, hagain⟩
    · set u := s.responseOver (max s.now x.endsAt) with hu
      have hin : u.inService = true := hservice
      have hreceiving : u.enterLoading.liu.receiving = (s.liu.lkey && s.liu.lcd) := by
        show (u.inService && s.liu.lkey && s.liu.lcd) = _
        rw [hin, Bool.true_and]
      have hflags : u.enterLoading.link.flags = s.link.flags &&& 0x0800 := rfl
      refine ⟨u.enterLoading.beginLoad straps, by
        rw [hexec, State.messageSent_restarts straps hwhat hparts hfull]; rfl, ?_⟩
      by_cases hstation : straps.station = 0
      · rw [State.beginLoad_of_zero hstation]
        simp only [hstation, if_true]
        exact ⟨rfl, rfl, rfl, rfl, rfl, rfl, ⟨rfl, hreceiving, rfl, rfl⟩, rfl, rfl⟩
      · rw [State.beginLoad_of_station hstation]
        simp only [hstation, if_false]
        exact ⟨rfl, rfl, rfl, rfl, rfl, rfl, ⟨rfl, hreceiving, rfl, rfl⟩, rfl, by simp [hflags]⟩
  · intro s straps x hservice htx hrestart
    have hexec := State.exec_messageSent straps hservice htx
    have hsent := Link.sent_eq x.what s.link
    obtain ⟨hrecords, hnumber, hqueue, hcredits, hnotice, hsame⟩ := Link.ended_stream x.what s.link
    have hgoes : s.messageSent straps x = _ := State.messageSent_goesOn straps (x := x) (by
      rw [hsent, hsame]
      refine hrestart.imp id fun ⟨hbusy, hnot⟩ => ?_
      simpa [Link.ended, hbusy, imp_iff_not_or] using hnot)
    rw [hsent] at hgoes
    rw [hgoes] at hexec
    refine ⟨fun r hrecord => ?_, fun hrecord => ⟨fun m rest hwaiting => ?_, fun m rest hwaiting => ?_,
      fun n rest hwaiting hnotices hcredit => ?_, fun hwaiting hquiet => ?_⟩⟩
    · rw [Link.start_of_record _ rfl (hrecords.trans hrecord), hnumber] at hexec
      exact hexec
    · rw [Link.start_of_response _ rfl (hrecords.trans hrecord) hwaiting] at hexec
      exact hexec
    · rw [Link.start_of_busy _ rfl (hrecords.trans hrecord) hwaiting] at hexec
      exact hexec
    · rw [Link.start_of_notice _ rfl (hrecords.trans hrecord) hwaiting (hqueue.trans hnotices)
        (by rwa [hcredits]), hcredits, hnotice] at hexec
      exact hexec
    · rw [Link.start_of_quiet _ rfl (hrecords.trans hrecord) hwaiting
        (hquiet.imp hqueue.trans hcredits.trans)] at hexec
      exact hexec

end Sys2Proof.Machine
end

/-!
PROOFS. Aboard a loader: a change of the record without a grant, and a grant (R25 to R28, R48, R49, R111, R126, R131, R149
to R151, R159, R166).
-/
section

namespace Sys2Proof.Machine

/-! ### A record given, or none (R150 to R152) -/

/-- R152, R184: a link after a record has been given, or none has. -/
def Link.giving (now : Nat) (g : Option CommandRecord) (k : Link) : Link :=
  match g with
  | none => k
  | some r => k.withRecord now r

theorem Link.giving_gave (now : Nat) (g : Option CommandRecord) (k : Link) : k.Gave now g (k.giving now g) := by
  cases g with
  | none => exact Link.gave_none now k
  | some r => exact Link.withRecord_gave now r k

theorem Link.giving_posts (now : Nat) (g : Option CommandRecord) (k : Link) : k.Posts [] 0 (k.giving now g) := by
  cases g with
  | none => exact .refl k
  | some r => exact Link.withRecord_posts now r k

@[simp] theorem Link.giving_lastReport (now : Nat) (g : Option CommandRecord) (k : Link) :
    (k.giving now g).lastReport = k.lastReport := by
  cases g <;> simp [Link.giving]

@[simp] theorem Link.giving_notices (now : Nat) (g : Option CommandRecord) (k : Link) :
    (k.giving now g).notices = k.notices := by
  cases g <;> simp [Link.giving]

/-- R152: a state after a record has been given, or none has. -/
def State.gives (g : Option CommandRecord) (s : State) : State :=
  { s with relay := { s.relay with lastRecord := g.getD s.relay.lastRecord }, link := s.link.giving s.now g }

theorem State.gives_some (r : CommandRecord) (s : State) : s.giveRecord r = s.gives (some r) :=
  State.giveRecord_spec r s

/-- R151: what the Relay gives after a lowering evaluation, by the state before it. -/
theorem State.relayLowered_eq {s u : State} (h : u.relay.lastRecord = s.relay.lastRecord) :
    u.relayLowered s = u.gives (s.loweredRecord u) := by
  have hsame : { u with relay := { u.relay with lastRecord := s.relay.lastRecord } } = u := by rw [← h]
  unfold State.relayLowered State.loweredRecord
  rw [hsame, h]
  by_cases hzero : u.zeroing = true
  · rw [if_pos hzero, if_neg (by simp [hzero])]
    rfl
  · have hmoving : u.zeroing = false := by simpa using hzero
    rw [if_neg hzero]
    by_cases hlower : u.envelope.cap < s.relay.lastRecord.cap ∨
        (u.discrete.motionEnable ≠ s.discrete.motionEnable ∧
          ¬ (s.zeroing = true ∧ u.discrete.motionEnable = true))
    · rw [if_pos hlower, if_pos ⟨hmoving, hlower⟩, State.gives_some]
    · rw [if_neg hlower, if_neg fun h => hlower h.2]
      rfl

/-! ### A change of the record without a grant (R131, R150, R151) -/

/-- R48, R131, R159, R166: the record has turned into `auth`: before the record of R150 or R151 and the announcement. -/
def State.turned (auth : Authority) (s : State) : State := (s.turn auth).showState

/-- R150, R151: the record given at a turn. -/
def State.turnGift (auth : Authority) (s : State) : Option CommandRecord :=
  if auth.state = .orphan then some {} else s.loweredRecord (s.turn auth)

theorem State.changeState_eq (auth : Authority) (s : State) :
    s.changeState auth = ((s.turned auth).gives (s.turnGift auth)).announce := by
  have hgift : (if auth.state = .orphan then (s.turn auth).giveZeroed else (s.turn auth).relayLowered s) =
      (s.turn auth).gives (s.turnGift auth) := by
    unfold State.turnGift
    split
    · exact State.gives_some _ _
    · exact State.relayLowered_eq rfl
  show (State.showState (if auth.state = .orphan then (s.turn auth).giveZeroed
    else (s.turn auth).relayLowered s)).announce = _
  rw [hgift]
  rfl

theorem State.motionCondition_of_loader {s : State} (h : s.activeAs .loader = true) :
    s.motionCondition = (s.record.auth.current?.isSome && s.discrete.latch.isNone && s.discrete.stopchain.active) := by
  simp [State.motionCondition, h, State.chainClosed]

/-- R159: the indicator follows the state of the record. -/
theorem State.showState_indicator (s : State) :
    match s.record.auth with
    | .free | .orphan .. => s.showState.discrete.indicator = false ∧ s.showState.discrete.flash = none
    | .held .. => s.showState.discrete.indicator = true ∧ s.showState.discrete.flash = none
    | .transfer .. | .assist .. =>
      s.showState.discrete.indicator = true ∧ s.showState.discrete.flash = some (s.now + ms 500) := by
  cases hauth : s.record.auth <;> simp [State.showState, hauth, Authority.state, Config.flashPhase]

/-- R27, R49, R131, R150, R151: a change of the record's state, with room for its STATE notice. -/
theorem State.changeState_spec {s : State} (hloader : s.activeAs .loader = true)
    (hroom : s.link.notices.length < 32) (auth : Authority) :
    s.TurnedInto auth (s.changeState auth) ∧
      s.link.StatePosted (s.changeState auth).stateNotice (s.changeState auth).link ∧
      s.link.SameSlot (s.changeState auth).link := by
  set v : State := (s.turned auth).gives (s.turnGift auth) with hv
  have hfree : v.link.notices.length < 32 := by
    show (s.link.giving s.now _).notices.length < 32
    rwa [Link.giving_notices]
  obtain ⟨hframe, hjoined, hposted, hslot, hruns⟩ := State.announce_spec (s := v)
    (State.activeAs_iff.mp (by exact hloader)).1 hfree
  have hgift : s.turnRecord (v.announce) = s.turnGift auth := by
    rw [hframe]
    rfl
  have hstatus : v.announce.statusFrame = v.statusFrame := by
    rw [hframe]
    exact State.statusFrame_congr (hreport := by
      obtain ⟨-, -, hreport, -⟩ := hposted
      exact hreport)
  have hnotice : v.announce.stateNotice = v.stateNotice := by rw [hframe]; rfl
  have hgiving := Link.giving_posts s.now (s.turnGift auth) s.link
  rw [State.changeState_eq, ← hv]
  refine ⟨⟨?_, ?_, ?_, ?_, ?_, ?_, ?_, ?_, ?_, ?_⟩, ?_, ?_⟩
  · rw [hframe]
    exact ⟨rfl, rfl, rfl, rfl, rfl, rfl, rfl, rfl, rfl, rfl⟩
  · rw [hframe]
    exact ⟨rfl, rfl, State.motionCondition_of_loader (s := { s with record := { s.record with auth } }) hloader,
      State.showState_indicator (s.turn auth)⟩
  · rw [hframe]; rfl
  · rw [hframe]; rfl
  · rw [hframe]; rfl
  · rw [hframe]; rfl
  · rw [hframe]; rfl
  · rw [hgift, hframe]; rfl
  · rw [hgift]
    exact (Link.giving_gave s.now _ s.link).then hruns
  · rw [hstatus]
    exact hjoined
  · rw [hnotice]
    exact hposted.after hgiving.1
  · exact hgiving.2.trans hslot

/-! ### A grant (R25, R26, R111, R126, R132, R149) -/

/-- R25: the grant that a target makes of a record. -/
def Record.granted (target : Option (Nat × Mode)) (r : Record) : Grant :=
  ⟨r.epoch + 1, target.map Prod.fst, target.map Prod.snd, r.auth.holder?⟩

/-- R149: the record given at a grant. -/
def State.grantRecord (target : Option (Nat × Mode)) (s : State) : CommandRecord :=
  if (s.take target).zeroing then {}
  else { mode := target.map Prod.snd, motion := (s.take target).discrete.motionEnable }

/-- R25, R48, R111, R126: the state of a grant before MOTION_ENABLE and the cap are judged. -/
def State.grantee (target : Option (Nat × Mode)) (s : State) : State :=
  { (State.monitorGrant (target.map Prod.snd) (State.inform { s with record := s.record.grant target })) with
    envelope := { s.envelope with permit := false } }

/-- R126, R132: the cap after a grant is 0: the window is empty in DRIVE, the permit no in SUPERVISE. -/
theorem State.take_cap (target : Option (Nat × Mode)) (s : State) : (s.take target).envelope.cap = 0 := by
  show State.capOf .lowering (s.grantee target).judgeMotion = 0
  match target with
  | none => exact State.capOf_overridden _ _ rfl
  | some (n, .drive) =>
    have hle : State.capOf .lowering (s.grantee (some (n, .drive))).judgeMotion ≤ linkTerm _ 0 :=
      State.capOf_le_linkTerm .lowering rfl
    rw [linkTerm_zero] at hle
    exact Nat.le_zero.mp hle
  | some (n, .supervise) =>
    have hle := State.capOf_le_holdTerm .lowering (s.grantee (some (n, .supervise))).judgeMotion
    have hterm : (s.grantee (some (n, .supervise))).judgeMotion.holdTerm = 0 := by
      have hterm : (s.grantee (some (n, .supervise))).judgeMotion.holdTerm = superviseTerm _ _ _ false := rfl
      rw [hterm]
      simp [superviseTerm]
    rw [hterm] at hle
    exact Nat.le_zero.mp hle

/-- R25, R48, R111, R126, R149, R159, R166: a grant has been made, before GRANT and the announcement. -/
def State.granted (target : Option (Nat × Mode)) (s : State) : State :=
  { s with
    record := s.record.grant target
    monitor := { s.monitor with
      view := (s.record.grant target).view, window := List.replicate 8 false, openMark := false, remembered := none
      lastHolderAt := (target.map Prod.snd).map fun _ => s.now
      lapse := (target.map Prod.snd).map fun m => s.now + s.lapseLimit m }
    envelope := { s.envelope with cap := 0, permit := false }
    relay := { s.relay with
      view := (s.record.grant target).view, taken := false, lastRecord := s.grantRecord target }
    discrete := { s.discrete with
      motionEnable := State.motionCondition { s with record := s.record.grant target }
      indicator := (State.showState { s with record := s.record.grant target }).discrete.indicator
      flash := (State.showState { s with record := s.record.grant target }).discrete.flash }
    link := s.link.giving s.now (some (s.grantRecord target)) }

/-- R111, R112: the lapse deadline of a grant: L × P in DRIVE and 4 × L × P in SUPERVISE. -/
theorem State.granted_lapse (target : Option (Nat × Mode)) (s : State) :
    (s.granted target).monitor.lapse =
      target.map fun p => s.now + ms ((if p.2 = .drive then 1 else 4) * s.settings.l * s.settings.p) := by
  match target with
  | none => rfl
  | some (n, .drive) => simp [State.granted, State.lapseLimit]
  | some (n, .supervise) => simp [State.granted, State.lapseLimit]

theorem State.makeGrant_eq (target : Option (Nat × Mode)) (s : State) :
    s.makeGrant target = ((s.granted target).sendGrant (s.record.granted target)).announce := by
  have hgift : (s.take target).relayGrant (target.map Prod.snd) =
      State.gives (some (s.grantRecord target))
        { s.take target with relay := { (s.take target).relay with taken := false } } :=
    State.gives_some _ _
  have hgranted : (State.gives (some (s.grantRecord target))
      { s.take target with relay := { (s.take target).relay with taken := false } }).showState = s.granted target := by
    unfold State.granted
    rw [← State.take_cap target s]
    rfl
  rw [← hgranted, ← hgift]
  rfl

/-- R25, R26, R111, R126, R149: a grant, with room for GRANT in class A and for its STATE notice. -/
theorem State.makeGrant_spec {s : State} (hloader : s.activeAs .loader = true) (hclass : s.liu.classA.length < 8)
    (hroom : s.link.notices.length < 32) (target : Option (Nat × Mode)) :
    s.GrantedTo target (s.makeGrant target) ∧
      s.link.StatePosted (s.makeGrant target).stateNotice (s.makeGrant target).link ∧
      s.link.SameSlot (s.makeGrant target).link := by
  set v : State := s.granted target with hv
  have hactive : v.active = true := (State.activeAs_iff.mp (by exact hloader)).1
  obtain ⟨hsent, hgranted, -⟩ := State.give_spec (TxFrame.make .grant 0 s.station (s.record.epoch + 1)
    [byte ((target.map Prod.fst).getD 0), modeCode? (target.map Prod.snd), byte (s.record.auth.holder?.getD 0)])
    v hactive (by exact hclass)
  set q := (v.give (TxFrame.make .grant 0 s.station (s.record.epoch + 1)
    [byte ((target.map Prod.fst).getD 0), modeCode? (target.map Prod.snd), byte (s.record.auth.holder?.getD 0)])).liu
  have hmade : s.makeGrant target = State.announce { v with liu := q } := by
    rw [State.makeGrant_eq, ← hv, ← hsent]
    rfl
  have hfree : v.link.notices.length < 32 := by
    show (s.link.giving s.now _).notices.length < 32
    rwa [Link.giving_notices]
  obtain ⟨hframe, hjoined, hposted, hslot, hruns⟩ := State.announce_spec (s := { v with liu := q }) hactive hfree
  have hstatus : (State.announce { v with liu := q }).statusFrame = State.statusFrame { v with liu := q } := by
    rw [hframe]
    exact State.statusFrame_congr (hreport := by
      obtain ⟨-, -, hreport, -⟩ := hposted
      exact hreport)
  have hnotice : (State.announce { v with liu := q }).stateNotice = State.stateNotice { v with liu := q } := by
    rw [hframe]; rfl
  have hgiving := Link.giving_posts s.now (some (s.grantRecord target)) s.link
  have hgift : (State.announce { v with liu := q }).relay.lastRecord = s.grantRecord target := by rw [hframe]; rfl
  rw [hmade]
  refine ⟨⟨?_, ?_, ?_, ?_, ?_, ?_, ?_, ?_, ?_, ?_, ?_, ?_, ?_, ?_, ?_, q, hgranted, ?_⟩, ?_, ?_⟩
  · rw [hframe]
    exact ⟨rfl, rfl, rfl, rfl, rfl, rfl, rfl, rfl, rfl, rfl⟩
  · rw [hframe]
    exact ⟨rfl, rfl, State.motionCondition_of_loader (s := { s with record := s.record.grant target }) hloader,
      State.showState_indicator (s.take target)⟩
  · rw [hframe]; rfl
  · rw [hframe]; rfl
  · rw [hframe]; rfl
  · rw [hframe]; rfl
  · rw [hframe]; rfl
  · rw [hframe]; rfl
  · rw [hframe]
    exact Option.map_map _ _ target
  · rw [hframe]
    exact State.granted_lapse target s
  · rw [hframe]; rfl
  · rw [hframe]; rfl
  · rw [hframe]; rfl
  · rw [hgift, hframe]; rfl
  · rw [hgift]
    exact (Link.giving_gave s.now (some _) s.link).then hruns
  · rw [hstatus]
    exact hjoined
  · rw [hnotice]
    exact hposted.after hgiving.1
  · exact hgiving.2.trans hslot

end Sys2Proof.Machine
end

/-!
PROOFS. Aboard a loader: the authority frames (R29 to R41, R47, R164).
-/
section

namespace Sys2Proof.Machine

/-! ### What a taken frame leads to (R25, R29) -/

theorem State.TakesAsLoader.loader {s : State} {f : RxFrame} (h : s.TakesAsLoader f) :
    s.received.activeAs .loader = true := by
  obtain ⟨⟨hactive, -⟩, hrole, -⟩ := h
  exact State.activeAs_iff.mpr ⟨hactive, hrole⟩

/-- R29: a frame that is refused is answered by one REFUSE, and changes nothing. -/
theorem State.TakesAsLoader.refused {s : State} {f : RxFrame} (h : s.TakesAsLoader f) (hclass : s.liu.classA.length < 8)
    {r : RefuseReason} (htakes : s.received.loaderTakes f = s.received.refuse r f) :
    ∃ q, exec .receptionComplete s = .next { s.received with liu := q } ∧
      Liu.Joined (TxFrame.make .refuse f.source s.station s.record.epoch
        [r.code, byte (s.record.auth.holder?.getD 0), f.kind.code]) s.received.liu q := by
  obtain ⟨hframe, hjoined, -⟩ := State.give_spec (TxFrame.make .refuse f.source s.station s.record.epoch
    [r.code, byte (s.record.auth.holder?.getD 0), f.kind.code]) s.received (State.activeAs_iff.mp h.loader).1
    (by exact hclass)
  refine ⟨_, ?_, hjoined⟩
  rw [h.exec_receptionComplete, htakes, ← hframe]
  rfl

/-- R25, R26: a frame that leads to a grant. -/
theorem State.TakesAsLoader.grants {s : State} {f : RxFrame} (h : s.TakesAsLoader f) (hclass : s.liu.classA.length < 8)
    (hroom : s.link.notices.length < 32) {target : Option (Nat × Mode)}
    (htakes : s.received.loaderTakes f = s.received.makeGrant target) :
    ∃ t, exec .receptionComplete s = .next t ∧ s.received.GrantedTo target t ∧
      s.link.StatePosted t.stateNotice t.link ∧ s.link.SameSlot t.link :=
  ⟨_, by rw [h.exec_receptionComplete, htakes],
    State.makeGrant_spec (s := s.received) h.loader hclass hroom target⟩

/-- R27, R131: a frame that turns the record into another state. -/
theorem State.TakesAsLoader.turns {s : State} {f : RxFrame} (h : s.TakesAsLoader f)
    (hroom : s.link.notices.length < 32) {auth : Authority}
    (htakes : s.received.loaderTakes f = s.received.changeState auth) :
    ∃ t, exec .receptionComplete s = .next t ∧ s.received.TurnedInto auth t ∧
      s.link.StatePosted t.stateNotice t.link ∧ s.link.SameSlot t.link :=
  ⟨_, by rw [h.exec_receptionComplete, htakes], State.changeState_spec (s := s.received) h.loader hroom auth⟩

/-- A frame that is ignored. -/
theorem State.TakesAsLoader.ignored {s : State} {f : RxFrame} (h : s.TakesAsLoader f)
    (htakes : s.received.loaderTakes f = s.received) : exec .receptionComplete s = .next s.received := by
  rw [h.exec_receptionComplete, htakes]

/-! ### Which frame is judged how (Table 2-6) -/

section kinds
variable {s : State} {f : RxFrame}

theorem State.loaderTakes_claim (h : f.kind = .claim) : s.loaderTakes f = s.takeClaim f := by
  simp [State.loaderTakes, h]
theorem State.loaderTakes_seize (h : f.kind = .seize) : s.loaderTakes f = s.takeSeize f := by
  simp [State.loaderTakes, h]
theorem State.loaderTakes_offer (h : f.kind = .offer) : s.loaderTakes f = s.takeOffer f := by
  simp [State.loaderTakes, h]
theorem State.loaderTakes_accept (h : f.kind = .accept) : s.loaderTakes f = s.takeAccept f := by
  simp [State.loaderTakes, h]
theorem State.loaderTakes_withdraw (h : f.kind = .withdraw) : s.loaderTakes f = s.takeWithdraw f := by
  simp [State.loaderTakes, h]
theorem State.loaderTakes_release (h : f.kind = .release) : s.loaderTakes f = s.takeRelease f := by
  simp [State.loaderTakes, h]
theorem State.loaderTakes_clear (h : f.kind = .clear) : s.loaderTakes f = s.takeClear f := by
  simp [State.loaderTakes, h]
theorem State.loaderTakes_stop (h : f.kind = .stop) : s.loaderTakes f = s.setLatch (.frame (f.at 0) f.source) := by
  simp [State.loaderTakes, h]
theorem State.loaderTakes_holderFrame (h : f.kind = .drive ∨ f.kind = .supervise) :
    s.loaderTakes f = s.takeHolderFrame f := by
  rcases h with h | h <;> simp [State.loaderTakes, h]

end kinds

/-! ### CLAIM and SEIZE (R30 to R34) -/

/-- R31: the lost grant: the current holder, who has the last grant, asks with the epoch before it. -/
theorem Record.lostGrant_iff {b : Nat} {e : Epoch} {r : Record} :
    r.lostGrant b e = true ↔ r.auth.current? = some b ∧ r.lastGrant.bind (·.holder) = some b ∧ e = r.epoch - 1 := by
  simp [Record.lostGrant, and_assoc]

theorem State.takeClaim_judged {s : State} {f : RxFrame} {m : Mode} (hmode : modeOf? (f.at 0) = some m)
    (hlost : ¬ s.record.lostGrant f.source f.epoch = true) :
    s.takeClaim f = s.carryOut (s.record.auth.judgeClaim f.source m (decide (f.epoch = s.record.epoch))) f := by
  simp [State.takeClaim, RxFrame.mode?, hmode, hlost]

theorem State.takeClaim_lost {s : State} {f : RxFrame} {m : Mode} (hmode : modeOf? (f.at 0) = some m)
    (hlost : s.record.lostGrant f.source f.epoch = true) : s.takeClaim f = s.refuse .taken f := by
  simp [State.takeClaim, RxFrame.mode?, hmode, hlost]

/-- Settles O18: the grants and the refusals of the rows of R32, after the tests of R30 and R31. -/
theorem aClaimIsJudgedByTheRecord : Obligations.AClaimIsJudgedByTheRecord := by
  refine ⟨?_, ?_⟩
  · intro s f m h hkind hmode hlost hclass hroom hrow
    have hverdict : s.record.auth.judgeClaim f.source m (decide (f.epoch = s.record.epoch)) = .grant f.source m := by
      rcases hrow with hauth | ⟨hm, o, hauth, hepoch⟩ | ⟨holder, tag, n, hauth, rfl⟩ | ⟨hm, d, hauth, hepoch⟩ <;>
        rw [hauth] <;> simp [Authority.judgeClaim, *]
    refine h.grants hclass hroom ?_
    rw [State.loaderTakes_claim hkind, State.takeClaim_judged (s := s.received) hmode (fun hl => hlost (Record.lostGrant_iff.mp hl))]
    exact congrArg (State.carryOut · f s.received) hverdict
  · intro s f r h hkind hclass hrow
    have hcode : f.kind.code = 0x25 := by rw [hkind]; rfl
    rw [← hcode]
    refine h.refused hclass ?_
    rw [State.loaderTakes_claim hkind]
    rcases hrow with ⟨hmode, rfl⟩ | ⟨m, hmode, ⟨hcurrent, hlast, hepoch, rfl⟩ | ⟨hlost, hrow⟩⟩
    · simp [State.takeClaim, RxFrame.mode?, hmode]
    · exact State.takeClaim_lost (s := s.received) hmode (Record.lostGrant_iff.mpr ⟨hcurrent, hlast, hepoch⟩)
    · have hverdict : s.record.auth.judgeClaim f.source m (decide (f.epoch = s.record.epoch)) = .refuse r := by
        rcases hrow with ⟨hm, o, hauth, hepoch, rfl⟩ | ⟨holder, hm, o, hauth, hother, rfl⟩ | ⟨holder, hm, i, hauth, rfl⟩ |
          ⟨holder, tag, n, hauth, rfl, rfl⟩ | ⟨hm, d, hauth, hepoch, rfl⟩ | ⟨holder, hm, d, hauth, hother, rfl⟩ <;>
          rw [hauth]
        · simp [Authority.judgeClaim, hepoch]
        · simp [Authority.judgeClaim, hother.symm]
        · simp [Authority.judgeClaim]
        · simp [Authority.judgeClaim]
        · simp [Authority.judgeClaim, hepoch]
        · simp [Authority.judgeClaim, hother.symm]
      rw [State.takeClaim_judged (s := s.received) hmode (fun hl => hlost (Record.lostGrant_iff.mp hl))]
      exact congrArg (State.carryOut · f s.received) hverdict

/-- R33: standstill, by the last REPORT. -/
theorem State.standstill_iff {s : State} :
    s.standstill = true ↔ ∃ r, s.link.lastReport = some r ∧ -1 ≤ r.speed.toInt ∧ r.speed.toInt ≤ 1 ∧
      s.now - r.arrived ≤ ms (10 * s.settings.p) := by
  unfold State.standstill
  cases s.link.lastReport with
  | none => simp
  | some r => simp [State.periods, and_assoc]

/-- R34: a SEIZE is judged after the test of the senior set and of the lost grant. -/
theorem State.takeSeize_judged {s : State} {f : RxFrame} {m : Mode} (hmode : modeOf? (f.at 0) = some m)
    (hsenior : f.source ∈ s.settings.seniorSet) (hlost : ¬ s.record.lostGrant f.source f.epoch = true) :
    s.takeSeize f = s.carryOut (s.record.auth.judgeSeize f.source m s.standstill) f := by
  simp [State.takeSeize, RxFrame.mode?, hmode, hsenior, hlost]

/-- Settles O19: the senior set, the grant, and the refusal MOVING. -/
theorem aSeizeNeedsASeniorAndAStandstill : Obligations.ASeizeNeedsASeniorAndAStandstill := by
  intro s f m h hkind hmode hclass hroom
  have hcode : f.kind.code = 0x26 := by rw [hkind]; rfl
  refine ⟨fun hjunior => ?_, fun hsenior hlost => ⟨fun hfree => ?_, fun hheld hmoving => ?_⟩⟩
  · rw [← hcode]
    refine h.refused (r := .notSenior) hclass ?_
    have hjunior' : f.source ∉ s.received.settings.seniorSet := hjunior
    rw [State.loaderTakes_seize hkind]
    simp [State.takeSeize, RxFrame.mode?, hmode, hjunior']
  · refine h.grants hclass hroom ?_
    rw [State.loaderTakes_seize hkind, State.takeSeize_judged (s := s.received) hmode hsenior
      (fun hl => hlost (Record.lostGrant_iff.mp hl))]
    have hverdict : s.record.auth.judgeSeize f.source m s.received.standstill = .grant f.source m := by
      rcases hfree with hnone | hstill
      · cases hauth : s.record.auth <;> simp_all [Authority.judgeSeize, Authority.current?]
      · have hstill' : s.received.standstill = true := State.standstill_iff.mpr hstill
        cases hauth : s.record.auth <;> simp [Authority.judgeSeize, hstill']
    exact congrArg (State.carryOut · f s.received) hverdict
  · rw [← hcode]
    refine h.refused (r := .moving) hclass ?_
    rw [State.loaderTakes_seize hkind, State.takeSeize_judged (s := s.received) hmode hsenior
      (fun hl => hlost (Record.lostGrant_iff.mp hl))]
    have hmoving' : s.received.standstill = false := by
      rw [Bool.eq_false_iff]
      intro hstill
      obtain ⟨r, hr, hlow, hhigh, hfresh⟩ := State.standstill_iff.mp hstill
      have hfresh' : s.now - r.arrived ≤ ms (10 * s.settings.p) := hfresh
      rcases hmoving r hr with hm | hm | hm <;> omega
    have hverdict : s.record.auth.judgeSeize f.source m s.received.standstill = .refuse .moving := by
      cases hauth : s.record.auth <;> simp_all [Authority.judgeSeize, Authority.current?]
    exact congrArg (State.carryOut · f s.received) hverdict

/-! ### The frames of a handover (R35 to R41) -/

/-- R35: an OFFER from the holder with the matching epoch, outside ASSIST, to another station. -/
theorem Authority.judgeOffer_none {a dest own : Nat} {auth : Authority} (hcurrent : auth.current? = some a)
    (hassist : auth.state ≠ .assist) (hzero : dest ≠ 0) (hself : dest ≠ a) (hown : dest ≠ own) :
    auth.judgeOffer a dest own true = none := by
  simp [Authority.judgeOffer, hcurrent, hassist, hzero, hself, hown]

/-- R36: the incoming party of an OFFER. -/
def State.incomingOf (f : RxFrame) (m : Mode) (s : State) : Incoming :=
  ⟨Party.ofCode f.dest, m, s.now + min (ms (100 * max 1 (min (f.halfAt 1).toNat 300))) (sec s.settings.tx)⟩

theorem State.takeOffer_judged {s : State} {f : RxFrame} {m : Mode} (hmode : modeOf? (f.at 0) = some m)
    (hjudged : s.record.auth.judgeOffer f.source f.dest s.station (decide (f.epoch = s.record.epoch)) = none) :
    s.takeOffer f =
      match s.record.auth with
      | .held h hm _ => s.changeState (.transfer h hm (s.incomingOf f m))
      | .transfer h hm _ =>
        State.announce { s with record := { s.record with auth := .transfer h hm (s.incomingOf f m) } }
      | .free | .assist .. | .orphan .. => s := by
  simp only [State.takeOffer, RxFrame.mode?, hmode, hjudged]
  rfl

theorem State.takeOffer_refused {s : State} {f : RxFrame} {m : Mode} {r : RefuseReason}
    (hmode : modeOf? (f.at 0) = some m)
    (hjudged : s.record.auth.judgeOffer f.source f.dest s.station (decide (f.epoch = s.record.epoch)) = some r) :
    s.takeOffer f = s.refuse r f := by
  simp [State.takeOffer, RxFrame.mode?, hmode, hjudged]

theorem State.takeAccept_judged {s : State} {f : RxFrame} {m : Mode} (hmode : modeOf? (f.at 0) = some m)
    (hlost : ¬ s.record.lostGrant f.source f.epoch = true) :
    s.takeAccept f = s.carryOut (s.record.auth.judgeAccept f.source m (decide (f.epoch = s.record.epoch))) f := by
  simp [State.takeAccept, RxFrame.mode?, hmode, hlost]

/-- Settles O20, frame by frame. -/
theorem aHandoverIsOfferedAcceptedWithdrawnOrReleased :
    Obligations.AHandoverIsOfferedAcceptedWithdrawnOrReleased := by
  intro s f h hclass hroom
  refine ⟨?_, ?_, ?_, ?_, ?_, ?_⟩
  · intro m hm o hkind hmode hauth hepoch hzero hself hown
    refine h.turns hroom ?_
    have hjudged : s.record.auth.judgeOffer f.source f.dest s.station (decide (f.epoch = s.record.epoch)) = none := by
      rw [hepoch, decide_eq_true rfl, hauth]
      exact Authority.judgeOffer_none rfl (by simp [Authority.state]) hzero hself hown
    rw [State.loaderTakes_offer hkind, State.takeOffer_judged (s := s.received) hmode hjudged]
    simp only [State.received_record, hauth]
    rfl
  · intro m hm i hkind hmode hauth hepoch hzero hself hown
    have hjudged : s.record.auth.judgeOffer f.source f.dest s.station (decide (f.epoch = s.record.epoch)) = none := by
      rw [hepoch, decide_eq_true rfl, hauth]
      exact Authority.judgeOffer_none rfl (by simp [Authority.state]) hzero hself hown
    set v : State := { s.received with
      record := { s.record with auth := .transfer f.source hm (s.incomingOf f m) } } with hv
    have htakes : s.received.loaderTakes f = v.announce := by
      rw [State.loaderTakes_offer hkind, State.takeOffer_judged (s := s.received) hmode hjudged]
      simp only [State.received_record, hauth]
      rfl
    obtain ⟨hframe, hjoined, hposted, hslot, -⟩ :=
      State.announce_spec (s := v) (State.activeAs_iff.mp (by exact h.loader)).1 hroom
    have hstatus : v.announce.statusFrame = v.statusFrame := by
      rw [hframe]
      exact State.statusFrame_congr (hreport := by
        obtain ⟨-, -, hreport, -⟩ := hposted
        exact hreport)
    have hnotice : v.announce.stateNotice = v.stateNotice := by rw [hframe]; rfl
    exact ⟨_, by rw [h.exec_receptionComplete, htakes], hframe, by rw [hstatus]; exact hjoined,
      by rw [hnotice]; exact hposted, hslot⟩
  · intro holder hm m p d hkind hmode hauth hparty hother hepoch
    refine h.grants hclass hroom ?_
    have hlost : ¬ s.record.lostGrant f.source f.epoch = true := by
      rw [Record.lostGrant_iff, hauth]
      simp [Authority.current?, hother]
    rw [State.loaderTakes_accept hkind, State.takeAccept_judged (s := s.received) hmode hlost]
    have hverdict : s.record.auth.judgeAccept f.source m (decide (f.epoch = s.record.epoch)) = .grant f.source m := by
      rw [hauth]
      rcases hparty with rfl | ⟨n, rfl⟩ <;> simp [Authority.judgeAccept, Party.admits, hepoch, hother.symm]
    exact congrArg (State.carryOut · f s.received) hverdict
  · intro m g hkind hmode hcurrent hlast hholder hepoch
    have hlost : s.received.record.lostGrant f.source f.epoch = true :=
      Record.lostGrant_iff.mpr ⟨hcurrent, by rw [State.received_record, hlast]; exact hholder, hepoch⟩
    have hlast' : s.received.record.lastGrant = some g := hlast
    have htakes : s.received.loaderTakes f = s.received.sendGrant g := by
      rw [State.loaderTakes_accept hkind]
      simp [State.takeAccept, RxFrame.mode?, hmode, hlost, hlast', -State.received_record]
    obtain ⟨hframe, hjoined, -⟩ := State.give_spec (TxFrame.make .grant 0 s.station g.epoch
      [byte f.source, modeCode? g.mode, byte (g.previous.getD 0)]) s.received (State.activeAs_iff.mp h.loader).1
      (by exact hclass)
    refine ⟨_, ?_, hjoined⟩
    rw [h.exec_receptionComplete, htakes, ← hframe]
    simp [State.sendGrant, hholder]
  · intro hm i hkind hauth hepoch
    refine h.turns hroom ?_
    rw [State.loaderTakes_withdraw hkind]
    simp [State.takeWithdraw, hauth, hepoch]
  · intro hkind hholder hepoch
    refine h.grants hclass hroom ?_
    rw [State.loaderTakes_release hkind]
    simp [State.takeRelease, hholder, hepoch]

/-! ### Refusals (R29 to R31, R35, R37, R41, R47) -/

/-- R37: the stations that a party admits: the station offered to, or any but the holder for a pool. -/
theorem Party.admits_iff {b h : Nat} {p : Party} :
    p.admits b h = true ↔ p = .station b ∨ ((∃ n, p = .pool n) ∧ b ≠ h) := by
  cases p with
  | station n => simp [Party.admits, eq_comm (a := b)]
  | pool n => simp [Party.admits]

/-- R35: the tests of an OFFER in their order. -/
theorem Authority.judgeOffer_some {a dest own : Nat} {auth : Authority} {matching : Bool} {r : RefuseReason}
    (h : (¬ auth.current? = some a ∧ r = .notHolder) ∨
      (auth.current? = some a ∧ matching = false ∧ r = .staleEpoch) ∨
      (auth.current? = some a ∧ matching = true ∧ auth.state = .assist ∧ r = .busyAssist) ∨
      (auth.current? = some a ∧ matching = true ∧ auth.state ≠ .assist ∧ (dest = 0 ∨ dest = a ∨ dest = own) ∧
        r = .badTarget)) : auth.judgeOffer a dest own matching = some r := by
  unfold Authority.judgeOffer
  rcases h with ⟨hc, rfl⟩ | ⟨hc, hm, rfl⟩ | ⟨hc, hm, hs, rfl⟩ | ⟨hc, hm, hs, hd, rfl⟩
  · rw [if_pos hc]
  · rw [if_neg (by simp [hc]), if_pos hm]
  · rw [if_neg (by simp [hc]), if_neg (by simp [hm]), if_pos hs]
  · rw [if_neg (by simp [hc]), if_neg (by simp [hm]), if_neg hs, if_pos hd]

/-- R37: the tests of an ACCEPT in TRANSFER, in their order. -/
theorem Authority.judgeAccept_transfer {b h : Nat} {m hm : Mode} {i : Incoming} {matching : Bool} {r : RefuseReason}
    (hrow : (¬ i.party.admits b h = true ∧ r = .notOffered) ∨
      (i.party.admits b h = true ∧ matching = false ∧ r = .staleEpoch) ∨
      (i.party.admits b h = true ∧ matching = true ∧ m ≠ i.mode ∧ r = .badMode)) :
    (Authority.transfer h hm i).judgeAccept b m matching = .refuse r := by
  rcases hrow with ⟨ha, rfl⟩ | ⟨ha, hmatch, rfl⟩ | ⟨ha, hmatch, hmode, rfl⟩
  · simp [Authority.judgeAccept, ha]
  · simp [Authority.judgeAccept, ha, hmatch]
  · simp [Authority.judgeAccept, ha, hmatch, hmode]

theorem Authority.judgeAccept_lapsed {b h : Nat} {m hm : Mode} {o : LapsedOffer} {matching : Bool} :
    (Authority.held h hm (some o)).judgeAccept b m matching =
      if o.party.admits b h = true then .refuse .late else .refuse .notOffered := rfl

/-- R35: an OFFER that fails a test. -/
theorem State.refuses_offer {s : State} {f : RxFrame} {r : RefuseReason} (hkind : f.kind = .offer)
    (hmode : modeOf? (f.at 0) ≠ none)
    (hrow : (¬ s.record.auth.current? = some f.source ∧ r = .notHolder) ∨
      (s.record.auth.current? = some f.source ∧ ¬ f.epoch = s.record.epoch ∧ r = .staleEpoch) ∨
      (s.record.auth.current? = some f.source ∧ f.epoch = s.record.epoch ∧ s.record.auth.state = .assist ∧
        r = .busyAssist) ∨
      (s.record.auth.current? = some f.source ∧ f.epoch = s.record.epoch ∧ s.record.auth.state ≠ .assist ∧
        (f.dest = 0 ∨ f.dest = f.source ∨ f.dest = s.station) ∧ r = .badTarget)) :
    s.loaderTakes f = s.refuse r f := by
  obtain ⟨m, hm⟩ := Option.ne_none_iff_exists'.mp hmode
  rw [State.loaderTakes_offer hkind]
  exact State.takeOffer_refused hm (Authority.judgeOffer_some (by simpa using hrow))

/-- R37: an ACCEPT that fails a test. -/
theorem State.refuses_accept {s : State} {f : RxFrame} {m : Mode} {r : RefuseReason} (hkind : f.kind = .accept)
    (hmode : modeOf? (f.at 0) = some m) (hlost : ¬ s.record.lostGrant f.source f.epoch = true)
    (hverdict : s.record.auth.judgeAccept f.source m (decide (f.epoch = s.record.epoch)) = .refuse r) :
    s.loaderTakes f = s.refuse r f := by
  rw [State.loaderTakes_accept hkind, State.takeAccept_judged hmode hlost, hverdict]
  rfl

/-- R30: a mode byte other than 1 and 2. -/
theorem State.refuses_badMode {s : State} {f : RxFrame} (hkind : f.kind = .offer ∨ f.kind = .accept ∨ f.kind = .seize)
    (hmode : modeOf? (f.at 0) = none) : s.loaderTakes f = s.refuse .badMode f := by
  rcases hkind with hkind | hkind | hkind
  · simp [State.loaderTakes_offer hkind, State.takeOffer, RxFrame.mode?, hmode]
  · simp [State.loaderTakes_accept hkind, State.takeAccept, RxFrame.mode?, hmode]
  · simp [State.loaderTakes_seize hkind, State.takeSeize, RxFrame.mode?, hmode]

/-- Settles O21: the refusals frame by frame, and the WITHDRAW that is ignored. -/
theorem aFrameAboutTheHoldIsRefused : Obligations.AFrameAboutTheHoldIsRefused := by
  refine ⟨?_, ?_⟩
  · intro s f r h hclass state matching current lostGrant admitted hrow
    refine h.refused hclass ?_
    rcases hrow with ⟨hkind, hmode, rfl⟩ | ⟨hkind, hmode, hsenior, hlost, rfl⟩ | ⟨hkind, hmode, hrow⟩ |
      ⟨hkind, hlost, m, hmode, hrow⟩ | ⟨hkind, hrow⟩ | ⟨hkind, hrow⟩
    · exact State.refuses_badMode hkind hmode
    · obtain ⟨m, hm⟩ := Option.ne_none_iff_exists'.mp hmode
      have hlost' : s.received.record.lostGrant f.source f.epoch = true := Record.lostGrant_iff.mpr hlost
      have hsenior' : f.source ∈ s.received.settings.seniorSet := hsenior
      rw [State.loaderTakes_seize hkind]
      simp [State.takeSeize, RxFrame.mode?, hm, hsenior', hlost', -State.received_record]
    · exact State.refuses_offer (s := s.received) hkind hmode hrow
    · refine State.refuses_accept (s := s.received) hkind hmode (fun hl => hlost (Record.lostGrant_iff.mp hl)) ?_
      rw [State.received_record]
      rcases hrow with ⟨holder, hm, i, hauth, hrow⟩ | ⟨holder, hm, o, hauth, hrow⟩ | ⟨hrow, rfl⟩ | ⟨horphan, rfl⟩
      · rw [hauth]
        refine Authority.judgeAccept_transfer ?_
        simpa [Party.admits_iff, admitted, matching] using hrow
      · rw [hauth, Authority.judgeAccept_lapsed]
        rcases hrow with ⟨ha, rfl⟩ | ⟨ha, rfl⟩
        · rw [if_pos (Party.admits_iff.mpr ha)]
        · rw [if_neg fun hp => ha (Party.admits_iff.mp hp)]
      · have hauth : s.record.auth = .free ∨ (∃ a b c, s.record.auth = .assist a b c) ∨
            ∃ a b, s.record.auth = .held a b none := by
          rcases hrow with hfree | hassist | hheld
          · exact .inl (by cases hauth : s.record.auth <;> simp_all [state, Authority.state])
          · exact .inr (.inl (by cases hauth : s.record.auth <;> simp_all [state, Authority.state]))
          · exact .inr (.inr hheld)
        rcases hauth with hauth | ⟨a, b, c, hauth⟩ | ⟨a, b, hauth⟩ <;> rw [hauth] <;> rfl
      · have hauth : ∃ a b c, s.record.auth = .orphan a b c := by
          cases hauth : s.record.auth <;> simp_all [state, Authority.state]
        obtain ⟨a, b, c, hauth⟩ := hauth
        rw [hauth]
        rfl
    · rw [State.loaderTakes_release hkind]
      rcases hrow with ⟨hholder, rfl⟩ | ⟨hholder, hstale, rfl⟩
      · exact if_pos hholder
      · exact (if_neg (not_not.mpr hholder)).trans (if_pos hstale)
    · rw [State.loaderTakes_clear hkind]
      rcases hrow with ⟨hholder, rfl⟩ | ⟨hholder, hstale, rfl⟩
      · exact if_pos hholder
      · exact (if_neg (not_not.mpr hholder)).trans (if_pos hstale)
  · intro s f h hkind hstray
    refine h.ignored ?_
    rw [State.loaderTakes_withdraw hkind, State.takeWithdraw]
    cases hauth : s.record.auth with
    | transfer holder m i =>
      simp only [State.received_record, hauth]
      refine if_neg ?_
      rintro ⟨hsource, hepoch⟩
      rcases hstray with hstate | hother | hother
      · exact hstate (by rw [hauth]; rfl)
      · exact hother (by rw [hauth, hsource]; rfl)
      · exact hother hepoch
    | free | held | assist | orphan => simp [hauth]

/-! ### STOP and CLEAR (R47, R150, R162 to R164) -/

theorem State.Receives.exec_stop {s : State} {f : RxFrame} (h : s.Receives f) (hrole : s.startup.role = .loader)
    (hsource : f.source ≠ s.station) (hkind : f.kind = .stop) (hloader : f.loader = s.station ∨ f.loader = 0) :
    exec .receptionComplete s = .next (s.received.setLatch (.frame (f.at 0) f.source)) := by
  have hdeliver : f.loader = s.station ∨ (f.kind = .stop ∧ f.loader = 0) :=
    hloader.imp id fun hzero => ⟨hkind, hzero⟩
  rw [h.exec_receptionComplete, ← State.loaderTakes_stop hkind]
  simp [State.takeFrame, hsource, hrole, State.deliverLoader, hdeliver]

/-- R164: with the chain closed the holder's CLEAR clears the latch: MOTION_ENABLE rises. -/
theorem State.clearLatch_spec {s : State} {h : Nat} (hloader : s.activeAs .loader = true)
    (hcurrent : s.record.auth.current? = some h) (hchain : s.discrete.stopchain.active = true)
    (hroom : s.link.notices.length < 32) :
    s.clearLatch = { s with
      discrete := { s.discrete with latch := none, motionEnable := true }
      liu := s.clearLatch.liu, link := s.clearLatch.link } ∧
      Liu.Joined s.clearLatch.statusFrame s.liu s.clearLatch.liu ∧ s.link.Posts [.latch none] 0 s.clearLatch.link := by
  set u : State := { s with discrete := { s.discrete with latch := none, motionEnable := true } } with hu
  have hclear : s.clearLatch = u.sendStatus.post (.latch none) := by
    have hmotion : State.motionCondition { s with discrete := { s.discrete with latch := none } } = true := by
      rw [State.motionCondition_of_loader (by exact hloader)]
      simp [hcurrent, hchain]
    unfold State.clearLatch
    simp only [State.judgeMotion, hmotion]
    rfl
  obtain ⟨hframe, hjoined⟩ := State.sendStatus_spec (s := u) (State.activeAs_iff.mp (by exact hloader)).1
  rw [hclear, hframe]
  refine ⟨rfl, ?_, State.post_posts (s := { u with liu := u.sendStatus.liu }) rfl hroom⟩
  rwa [State.statusFrame_congr (s := u) (hreport := by simp [State.post])]

/-- Settles O23, clause by clause. -/
theorem aStopSetsAndAClearClearsTheLatch : Obligations.AStopSetsAndAClearClearsTheLatch := by
  refine ⟨?_, ?_, ?_, ?_⟩
  · intro s f h hrole hsource hkind hloader hroom
    obtain ⟨hlatched, hgave, hposts⟩ := State.setLatch_spec (s := s.received) h.1 (.frame (f.at 0) f.source)
    exact ⟨_, h.exec_stop hrole hsource hkind hloader, hlatched, hgave, hposts hroom⟩
  · intro s f cause h hkind hcurrent hepoch hchain hlatch hroom
    have htakes : s.received.loaderTakes f = s.received.clearLatch := by
      rw [State.loaderTakes_clear hkind]
      simp [State.takeClear, hcurrent, hepoch, State.chainClosed, hchain, hlatch]
    obtain ⟨hframe, hjoined, hposts⟩ := State.clearLatch_spec (s := s.received) h.loader hcurrent hchain hroom
    exact ⟨_, by rw [h.exec_receptionComplete, htakes], hframe, hjoined, hposts⟩
  · intro s f h hkind hcurrent hepoch hchain hlatch
    refine h.ignored ?_
    rw [State.loaderTakes_clear hkind]
    simp [State.takeClear, hcurrent, hepoch, State.chainClosed, hchain, hlatch]
  · intro s f h hkind hcurrent hepoch hchain hclass
    have hholder : s.record.auth.holder?.getD 0 = f.source := by
      cases hauth : s.record.auth <;> simp_all [Authority.current?, Authority.holder?]
    have hrefused := h.refused (r := .chainOpen) hclass (by
      rw [State.loaderTakes_clear hkind]
      simp [State.takeClear, hcurrent, hepoch, State.chainClosed, hchain])
    rw [hholder, hkind] at hrefused
    exact hrefused

end Sys2Proof.Machine
end

/-!
PROOFS. Aboard a loader: the holder frames and the command records (R105 to R107, R126, R145 to R152).
-/
section

namespace Sys2Proof.Machine

/-! ### Good holder frames (R105, R106) -/

/-- R106: the sequence test. -/
theorem State.passesSequence_iff {s : State} {seq : Byte} :
    s.passesSequence seq = true ↔ ∀ r, s.monitor.remembered = some r →
      ms (16 * s.settings.p) < s.now - r.taken ∨ (1 ≤ (seq - r.seq).toNat ∧ (seq - r.seq).toNat ≤ 127) := by
  unfold State.passesSequence
  cases s.monitor.remembered with
  | none => simp
  | some r =>
    simp only [State.periods, seqNewer, Bool.or_eq_true, decide_eq_true_eq, Option.some.injEq, forall_eq']
    exact or_congr_left decide_eq_true_iff

theorem not_passesSequence {s : State} {seq : Byte}
    (h : ∃ r, s.monitor.remembered = some r ∧ s.now - r.taken ≤ ms (16 * s.settings.p) ∧
      ¬ (1 ≤ (seq - r.seq).toNat ∧ (seq - r.seq).toNat ≤ 127)) : ¬ s.passesSequence seq = true := by
  obtain ⟨r, hr, hfresh, hold⟩ := h
  intro hpasses
  rcases State.passesSequence_iff.mp hpasses r hr with hlate | hnewer
  · omega
  · exact hold hnewer

/-- The mode of the kind of a holder frame. -/
def RxFrame.holderMode (f : RxFrame) : Mode := if f.kind = .drive then .drive else .supervise

/-- R105: a good holder frame comes from the current holder, with the hold's mode and epoch and a newer sequence. -/
theorem State.isGoodFrame_iff {s : State} {f : RxFrame} (hview : s.monitor.view = s.record.view) :
    s.isGoodFrame f = true ↔ s.record.auth.current? = some f.source ∧ s.record.auth.mode? = some f.holderMode ∧
      f.epoch = s.record.epoch ∧ s.passesSequence f.seq = true := by
  unfold State.isGoodFrame RxFrame.holderMode
  simp only [hview, Record.view, Bool.and_eq_true, decide_eq_true_eq]
  constructor
  · rintro ⟨⟨⟨⟨-, hholder⟩, hmode⟩, hepoch⟩, hpasses⟩
    exact ⟨hholder, hmode, hepoch, hpasses⟩
  · rintro ⟨hholder, hmode, hepoch, hpasses⟩
    refine ⟨⟨⟨⟨?_, hholder⟩, hmode⟩, hepoch⟩, hpasses⟩
    cases hauth : s.record.auth <;> simp_all [Authority.current?, Authority.state]

theorem State.takeHolderFrame_bad {s : State} {f : RxFrame} (h : ¬ s.isGoodFrame f = true) :
    s.takeHolderFrame f = s := if_neg h

/-- R150: with a current holder the zeroing condition is the set latch or the open chain. -/
theorem State.zeroing_of_current {s : State} {h : Nat} (hcurrent : s.record.auth.current? = some h) :
    s.zeroing = true ↔ s.discrete.latch.isSome = true ∨ s.discrete.stopchain.active = false := by
  have hstate : ¬ (s.record.auth.state = .free ∨ s.record.auth.state = .orphan) := by
    cases hauth : s.record.auth <;> simp_all [Authority.current?, Authority.state]
  simp [State.zeroing, hstate, State.chainClosed]

/-- R108: with a current holder the age is counted from the last good frame. -/
theorem State.age?_of_current {s : State} {h heard : Nat} (hview : s.monitor.view = s.record.view)
    (hcurrent : s.record.auth.current? = some h) (hheard : s.monitor.lastHolderAt = some heard) :
    s.age? = some ((s.now - heard) / 1000) := by
  simp [State.age?, hview, Record.view, hcurrent, hheard, State.msSince]

/-- R146: the travel of a NEW record. -/
theorem State.driveRecord_travel (f : RxFrame) (s : State) :
    (s.driveRecord f).travel =
      passedTravel s.envelope.cap s.settings.vrev (f.at 5) (f.halfAt 1).toInt := by
  simp only [State.driveRecord, passedTravel, State.clampTravel, clampInt, Bool.and_eq_true, Bool.not_eq_true', and_assoc]

/-- R146, R147, R150: the record that the take of a good holder frame gives. -/
def State.takenRecord (f : RxFrame) (s : State) : CommandRecord :=
  if s.discrete.latch.isSome = true ∨ s.discrete.stopchain.active = false then { freshness := .new }
  else if f.kind = .drive then s.driveRecord f else s.superviseRecord

theorem State.relayTake_eq {s : State} {h : Nat} (f : RxFrame) (hcurrent : s.record.auth.current? = some h) :
    s.relayTake f = { s with
      relay := { s.relay with taken := true, lastRecord := s.takenRecord f }
      link := s.link.withRecord s.now (s.takenRecord f) } := by
  have hrecord : (if s.zeroing then zeroedRecord .new
      else if f.kind = .drive then s.driveRecord f else s.superviseRecord) = s.takenRecord f :=
    if_congr (State.zeroing_of_current hcurrent) rfl rfl
  unfold State.relayTake
  rw [hrecord, State.giveRecord_spec]

/-- R107, R146, R150: the take of a good DRIVE frame. -/
theorem State.takeHolderFrame_drive {s : State} {f : RxFrame} {h : Nat} (hkind : f.kind = .drive)
    (hcurrent : s.record.auth.current? = some h) (hgood : s.isGoodFrame f = true) :
    s.takeHolderFrame f =
      let record := if s.discrete.latch.isSome = true ∨ s.discrete.stopchain.active = false then { freshness := .new }
        else s.driveRecord f
      { s with
        monitor := { s.monitor with
          lastHolderAt := some s.now, remembered := some ⟨f.seq, s.now⟩, openMark := true
          lapse := some (s.now + ms (s.settings.l * s.settings.p)) }
        relay := { s.relay with taken := true, lastRecord := record }
        link := s.link.withRecord s.now record } := by
  have htaken : s.monitorTake f = { s with monitor := { s.monitor with
      lastHolderAt := some s.now, remembered := some ⟨f.seq, s.now⟩, openMark := true
      lapse := some (s.now + ms (s.settings.l * s.settings.p)) } } := by
    simp [State.monitorTake, hkind, State.lapseLimit]
  unfold State.takeHolderFrame
  rw [if_pos hgood]
  simp only [hkind, reduceCtorEq, if_false, htaken]
  rw [State.relayTake_eq f (by exact hcurrent)]
  simp only [State.takenRecord, hkind, if_true]
  rfl

/-- Settles O24: a good frame is taken, and one that is not good is not. -/
theorem aGoodDriveFrameBecomesARecord : Obligations.AGoodDriveFrameBecomesARecord := by
  intro s f h htakes hkind hcurrent hmode hview
  have hdrive : f.holderMode = .drive := by simp [RxFrame.holderMode, hkind]
  refine ⟨?_, fun hbad => htakes.ignored ?_⟩
  · rintro ⟨hsource, hepoch, hsequence⟩
    have hgood : s.received.isGoodFrame f = true := (State.isGoodFrame_iff (s := s.received) hview).mpr
      ⟨hcurrent.trans (by rw [hsource]), by rw [State.received_record, hmode, hdrive], hepoch,
        State.passesSequence_iff.mpr hsequence⟩
    rw [htakes.exec_receptionComplete, State.loaderTakes_holderFrame (.inl hkind),
      State.takeHolderFrame_drive (s := s.received) hkind hcurrent hgood]
    have hrecord : s.received.driveRecord f = { s.received.driveRecord f with
        travel := passedTravel s.envelope.cap s.settings.vrev (f.at 5) (f.halfAt 1).toInt } := by
      have htravel : (s.received.driveRecord f).travel =
          passedTravel s.envelope.cap s.settings.vrev (f.at 5) (f.halfAt 1).toInt := State.driveRecord_travel f s.received
      rw [← htravel]
    rw [hrecord]
    rfl
  · rw [State.loaderTakes_holderFrame (.inl hkind)]
    refine State.takeHolderFrame_bad fun hgood => ?_
    obtain ⟨hsource, -, hepoch, hsequence⟩ := (State.isGoodFrame_iff (s := s.received) hview).mp hgood
    rcases hbad with hother | hother | hstale
    · exact hother (Option.some.inj (hsource.symm.trans hcurrent))
    · exact hother hepoch
    · exact not_passesSequence (s := s.received) hstale hsequence

/-! ### SUPERVISE frames (R126, R145, R147) -/

/-- R126: with the permit no the cap of a SUPERVISE hold is 0. -/
theorem State.capOf_supervise_no (e : Evaluation) {s : State} (hmode : s.monitor.view.mode = some .supervise)
    (hpermit : s.envelope.permit = false) : s.capOf e = 0 := by
  have hterm : s.holdTerm = 0 := by
    unfold State.holdTerm
    rw [hmode]
    cases s.age? <;> simp [superviseTerm, hpermit]
  have hle := State.capOf_le_holdTerm e s
  rw [hterm] at hle
  exact Nat.le_zero.mp hle

/-- R145: the continue field just after a take: the permit, outside ASSIST. -/
theorem State.continueField_fresh {s : State} {h : Nat} (hview : s.monitor.view = s.record.view)
    (hrelay : s.relay.view = s.record.view) (hcurrent : s.record.auth.current? = some h)
    (hmode : s.record.auth.mode? = some .supervise) (hheard : s.monitor.lastHolderAt = some s.now) :
    s.continueField = (decide (s.record.auth.state ≠ .assist) && s.envelope.permit) := by
  have hstate : decide (s.record.auth.state = .held ∨ s.record.auth.state = .transfer) =
      decide (s.record.auth.state ≠ .assist) := by
    cases hauth : s.record.auth <;> simp_all [Authority.current?, Authority.state]
  simp [State.continueField, hrelay, Record.view, hmode, hstate, State.age?_of_current hview hcurrent hheard,
    Bool.and_comm]

/-- R107, R126, R147, R150: the take of a good SUPERVISE frame. -/
theorem State.takeHolderFrame_supervise {s : State} {f : RxFrame} {h : Nat} (hkind : f.kind = .supervise)
    (hcurrent : s.record.auth.current? = some h) (hmode : s.record.auth.mode? = some .supervise)
    (hview : s.monitor.view = s.record.view) (hrelay : s.relay.view = s.record.view)
    (hgood : s.isGoodFrame f = true) :
    s.takeHolderFrame f =
      let cap := if f.at 0 = 1 then s.envelope.cap else 0
      let record : CommandRecord :=
        if s.discrete.latch.isSome = true ∨ s.discrete.stopchain.active = false then { freshness := .new }
        else
          { mode := some .supervise, cap
            continueOk := decide (f.at 0 = 1 ∧ s.record.auth.state ≠ .assist)
            motion := s.discrete.motionEnable, freshness := .new }
      { s with
        monitor := { s.monitor with
          lastHolderAt := some s.now, remembered := some ⟨f.seq, s.now⟩
          lapse := some (s.now + ms (4 * s.settings.l * s.settings.p)) }
        envelope := { s.envelope with cap, permit := decide (f.at 0 = 1) }
        relay := { s.relay with taken := true, lastRecord := record }
        link := s.link.withRecord s.now record } := by
  set u : State := { s with
    monitor := { s.monitor with
      lastHolderAt := some s.now, remembered := some ⟨f.seq, s.now⟩
      lapse := some (s.now + ms (4 * s.settings.l * s.settings.p)) }
    envelope := { s.envelope with
      cap := if f.at 0 = 1 then s.envelope.cap else 0, permit := decide (f.at 0 = 1) } } with hu
  have htaken : s.monitorTake f = { s with monitor := { s.monitor with
      lastHolderAt := some s.now, remembered := some ⟨f.seq, s.now⟩
      lapse := some (s.now + ms (4 * s.settings.l * s.settings.p)) } } := by
    simp [State.monitorTake, hkind, State.lapseLimit]
  have hrecord : u.superviseRecord =
      { mode := some .supervise, cap := if f.at 0 = 1 then s.envelope.cap else 0
        continueOk := decide (f.at 0 = 1 ∧ s.record.auth.state ≠ .assist)
        motion := s.discrete.motionEnable, freshness := .new } := by
    have hcontinue := State.continueField_fresh (s := u) hview hrelay hcurrent hmode rfl
    simp only [State.superviseRecord, hcontinue]
    simp [hu, Bool.and_comm]
  have hlowered : s.takeHolderFrame f = u.relayTake f := by
    unfold State.takeHolderFrame
    rw [if_pos hgood]
    by_cases hone : f.at 0 = 1
    · simp only [hkind, if_true, htaken, hone, hu]
    · simp only [hkind, if_true, htaken, hone, if_false, hu, State.evaluate]
      rw [State.capOf_supervise_no .lowering (by simpa [Record.view] using hview ▸ hmode) (by simp)]
  rw [hlowered, State.relayTake_eq f (by exact hcurrent)]
  simp only [State.takenRecord, hkind, reduceCtorEq, if_false, hrecord]
  rfl

/-- Settles O25: the take, and the frames that are not taken. -/
theorem aGoodSuperviseFrameSetsThePermit : Obligations.AGoodSuperviseFrameSetsThePermit := by
  refine ⟨?_, ?_⟩
  · intro s f h htakes hkind hcurrent hmode hview hrelay
    have hsupervise : f.holderMode = .supervise := by simp [RxFrame.holderMode, hkind]
    refine ⟨?_, fun hbad => htakes.ignored ?_⟩
    · rintro ⟨hsource, hepoch, hsequence⟩
      have hgood : s.received.isGoodFrame f = true := (State.isGoodFrame_iff (s := s.received) hview).mpr
        ⟨hcurrent.trans (by rw [hsource]), by rw [State.received_record, hmode, hsupervise], hepoch,
          State.passesSequence_iff.mpr hsequence⟩
      rw [htakes.exec_receptionComplete, State.loaderTakes_holderFrame (.inr hkind),
        State.takeHolderFrame_supervise (s := s.received) hkind hcurrent hmode hview hrelay hgood]
      rfl
    · rw [State.loaderTakes_holderFrame (.inr hkind)]
      refine State.takeHolderFrame_bad fun hgood => ?_
      obtain ⟨hsource, -, hepoch, hsequence⟩ := (State.isGoodFrame_iff (s := s.received) hview).mp hgood
      rcases hbad with hother | hother | hstale
      · exact hother (Option.some.inj (hsource.symm.trans hcurrent))
      · exact hother hepoch
      · exact not_passesSequence (s := s.received) hstale hsequence
  · intro s f htakes hview hbad
    have hkind : f.kind = .drive ∨ f.kind = .supervise := by
      rcases hbad with ⟨hk, -⟩ | ⟨hk, -⟩ | ⟨hk, -⟩
      · exact .inl hk
      · exact .inr hk
      · exact hk
    refine htakes.ignored ?_
    rw [State.loaderTakes_holderFrame hkind]
    refine State.takeHolderFrame_bad fun hgood => ?_
    obtain ⟨hsource, hmode, -, -⟩ := (State.isGoodFrame_iff (s := s.received) hview).mp hgood
    rw [State.received_record] at hsource hmode
    rcases hbad with ⟨hk, hne⟩ | ⟨hk, hne⟩ | ⟨-, hnone⟩
    · exact hne (by rw [hmode]; simp [RxFrame.holderMode, hk])
    · exact hne (by rw [hmode]; simp [RxFrame.holderMode, hk])
    · rw [hnone] at hsource
      cases hsource

end Sys2Proof.Machine
end

/-!
PROOFS. Aboard a loader: the timers, the envelope interval, and the machine controller's requests (R40 to R46, R120 to R130,
R148, R165, R179).
-/
section

namespace Sys2Proof.Machine

/-! ### The timers of the record (R27, R40, R42, R43, R45, R112, R159) -/

/-- R44, R45: an ASSIST_CALL given to the LIU with room in class A. -/
theorem State.callAssist_spec {s : State} (hactive : s.active = true) (hclass : s.liu.classA.length < 8) (tag : Half) :
    s.callAssist tag = { s with liu := (s.callAssist tag).liu } ∧
      Liu.Joined (TxFrame.make .assistCall (64 + s.settings.homePool) s.station s.record.epoch (bytesOfHalf tag))
        s.liu (s.callAssist tag).liu := by
  obtain ⟨hframe, hjoined, -⟩ := State.give_spec
    (TxFrame.make .assistCall (64 + s.settings.homePool) s.station s.record.epoch (bytesOfHalf tag)) s hactive hclass
  exact ⟨hframe, hjoined⟩

/-- R112: the lapse of a hold. -/
theorem State.exec_lapse {s : State} {h due : Nat} {m : Mode} (hloader : s.activeAs .loader = true)
    (hlapse : s.monitor.lapse = some due) (hcurrent : s.record.auth.current? = some h)
    (hmode : s.record.auth.mode? = some m) :
    exec .lapseTimerExpiry s = .next (State.changeState (.orphan h m (max s.now due + sec s.settings.tr))
      { s with now := max s.now due, monitor := { s.monitor with lapse := none } }) := by
  show execLapseTimerExpiry s = _
  simp [execLapseTimerExpiry, hloader, hlapse, State.lapse, State.reach, hcurrent, hmode, State.settings]

/-- Settles O26, timer by timer. -/
theorem theTimersOfALoaderExpire : Obligations.TheTimersOfALoaderExpire := by
  refine ⟨?_, ?_, ?_, ?_⟩
  · intro s hloader hclass hroom
    refine ⟨?_, ?_, ?_⟩
    · intro h m i hauth
      refine ⟨State.changeState (.held h m (some ⟨i.party, i.mode⟩)) { s with now := max s.now i.deadline }, ?_,
        State.changeState_spec (s := { s with now := max s.now i.deadline }) hloader hroom _⟩
      show execTransferDeadlineExpiry s = _
      simp [execTransferDeadlineExpiry, hloader, hauth, State.reach]
    · intro h m due hlapse hcurrent hmode
      exact ⟨_, State.exec_lapse hloader hlapse hcurrent hmode, State.changeState_spec
        (s := { s with now := max s.now due, monitor := { s.monitor with lapse := none } }) hloader hroom _⟩
    · intro h m d hauth
      refine ⟨State.makeGrant none { s with now := max s.now d }, ?_,
        State.makeGrant_spec (s := { s with now := max s.now d }) hloader hclass hroom none⟩
      show execReclaimDeadlineExpiry s = _
      simp [execReclaimDeadlineExpiry, hloader, hauth, State.reach]
  · intro s h tag due hloader hclass hauth
    set u : State := { s with
      now := max s.now due, record := { s.record with auth := .assist h tag (max s.now due + sec 2) } } with hu
    obtain ⟨hframe, hjoined⟩ := State.callAssist_spec (s := u) (State.activeAs_iff.mp (by exact hloader)).1 hclass tag
    refine ⟨_, ?_, hjoined⟩
    have hexec : exec .assistRepeatExpiry s = .next (u.callAssist tag) := by
      show execAssistRepeatExpiry s = _
      simp [execAssistRepeatExpiry, hloader, hauth, State.reach, Config.assistRepeat, hu]
    rw [hexec]
    conv_lhs => rw [hframe]
  · intro s due hloader htimer
    set u : State := { s with now := max s.now due, record := { s.record with statusTimer := none } } with hu
    obtain ⟨hframe, hjoined⟩ := State.sendStatus_spec (s := u) (State.activeAs_iff.mp (by exact hloader)).1
    refine ⟨u.sendStatus, ?_, hframe, ?_⟩
    · show execStatusTimerExpiry s = _
      simp [execStatusTimerExpiry, hloader, htimer, State.reach, hu]
    · have hstatus : u.sendStatus.statusFrame = u.statusFrame := by
        rw [hframe]
        rfl
      rw [hstatus]
      exact hjoined
  · intro s due hloader hflash
    show execIndicatorFlash s = _
    simp [execIndicatorFlash, hloader, hflash, State.reach, Config.flashPhase]

/-! ### The interval evaluation (R109, R110, R122 to R130) -/

/-- R110: of a window of eight the three newest slots. -/
theorem newest_all_false {w : List Bool} (h : w.length = 8) :
    (w.reverse.take 3).all (!·) = true ↔ w.drop 5 = [false, false, false] := by
  have hnewest : w.reverse.take 3 = (w.drop 5).reverse := by rw [List.take_reverse, h]
  have hthree : (w.drop 5).length = 3 := by simp [h]
  rw [hnewest, List.all_reverse]
  match hw : w.drop 5, hthree with
  | [a, b, c], _ => simp

/-- R122 to R127: the hold term with a current holder. -/
theorem State.holdTerm_of_current {s : State} {h heard : Nat} {m : Mode} (hview : s.monitor.view = s.record.view)
    (hcurrent : s.record.auth.current? = some h) (hmode : s.record.auth.mode? = some m)
    (hheard : s.monitor.lastHolderAt = some heard) (hwindow : s.monitor.window.length = 8) :
    s.holdTerm =
      let age := (s.now - heard) / 1000
      let vq := s.settings.vmax * s.monitor.window.count true / 8
      let tf := 2 * s.settings.p
      let tl := s.settings.l * s.settings.p
      let va := if age ≤ tf then vq else if age < tl then vq * (tl - age) / (tl - tf) else 0
      if m = .drive then (if s.monitor.window.drop 5 = [false, false, false] then min va s.settings.vcrawl else va)
      else if s.envelope.permit = true ∧ age ≤ 8 * s.settings.p then s.settings.vauto
      else 0 := by
  have hviewMode : s.monitor.view.mode = some m := by rw [hview]; exact hmode
  unfold State.holdTerm
  rw [State.age?_of_current hview hcurrent hheard, hviewMode]
  cases m with
  | drive =>
    have halert : s.monitor.alert = decide (s.monitor.window.drop 5 = [false, false, false]) := by
      have hholder : s.monitor.view.holder = some h := by rw [hview]; exact hcurrent
      rw [Bool.eq_iff_iff, decide_eq_true_iff, ← newest_all_false hwindow]
      simp [Monitor.alert, Monitor.driveHold, hholder, hviewMode]
    simp only [halert, alertTerm, ageTerm, linkTerm, Monitor.linkFigure, if_true, decide_eq_true_eq]
  | supervise => simp [superviseTerm, and_comm]

/-- R129: the zone term. -/
theorem State.zoneTerm_eq (vp : Nat) (s : State) :
    s.zoneTerm vp =
      match s.link.lastReport with
      | none => vp
      | some r =>
        if s.now - r.arrived ≤ ms (10 * s.settings.p) then min vp (r.zone.getD vp) else min vp s.settings.vcrawl := by
  unfold State.zoneTerm
  cases s.link.lastReport with
  | none => rfl
  | some r =>
    by_cases hfresh : s.now - r.arrived ≤ ms (10 * s.settings.p)
    · have hjudged : s.reportFresh r = true := decide_eq_true hfresh
      simp only [hjudged, hfresh, if_true]
      cases r.zone <;> simp
    · have hjudged : ¬ s.reportFresh r = true := fun h => hfresh (of_decide_eq_true h)
      simp only [if_neg hjudged, if_neg hfresh]

/-- R130: the override, with a current holder: ASSIST, the set latch or the open chain. -/
theorem State.overridden_of_current {s : State} {h : Nat} (hview : s.monitor.view = s.record.view)
    (hcurrent : s.record.auth.current? = some h) :
    s.overridden = true ↔
      (s.discrete.latch.isSome = true ∨ s.discrete.stopchain.active = false) ∨ s.record.auth.state = .assist := by
  have hstate : (s.record.auth.state ≠ .held ∧ s.record.auth.state ≠ .transfer) ↔ s.record.auth.state = .assist := by
    cases hauth : s.record.auth <;> simp_all [Authority.current?, Authority.state]
  have hview' : s.monitor.view.state = s.record.auth.state := by rw [hview]; rfl
  simp only [State.overridden, hview', Bool.or_eq_true, decide_eq_true_eq, hstate, State.chainClosed,
    Bool.not_eq_true']
  tauto

/-- R130, R132: without a current holder the cap is 0. -/
theorem State.capOf_of_no_current (e : Evaluation) {s : State} (hview : s.monitor.view = s.record.view)
    (hnone : s.record.auth.current? = none) : s.capOf e = 0 := by
  refine State.capOf_overridden e s ?_
  have hview' : s.monitor.view.state = s.record.auth.state := by rw [hview]; rfl
  cases hauth : s.record.auth <;> simp_all [State.overridden, Authority.current?, Authority.state]

/-- R130: the cap of an interval evaluation with a current holder. -/
theorem State.capOf_interval {s : State} {h : Nat} (hview : s.monitor.view = s.record.view)
    (hcurrent : s.record.auth.current? = some h) :
    s.capOf .interval =
      if (s.discrete.latch.isSome = true ∨ s.discrete.stopchain.active = false) ∨ s.record.auth.state = .assist then 0
      else min (s.zoneTerm (if s.record.auth.state = .transfer then min s.holdTerm s.settings.vcrawl else s.holdTerm))
        (s.envelope.cap + s.settings.rup) := by
  have hview' : s.monitor.view.state = s.record.auth.state := by rw [hview]; rfl
  unfold State.capOf
  rw [hview']
  exact if_congr (State.overridden_of_current hview hcurrent) rfl rfl

/-! ### The record of an interval (R148, R150, R151) -/

/-- R148, R151: the record that the Relay gives at an interval, or none. -/
def State.intervalRecord (s : State) : Option CommandRecord :=
  if s.zeroing = true then (if s.relay.taken = true then none else some {})
  else if s.relay.taken = false ∨ s.envelope.cap < s.relay.lastRecord.cap then some s.repeatRecord
  else none

/-- R148: the Relay at an interval expiry. -/
theorem State.relayInterval_eq (s : State) :
    s.relayInterval = { s with
      relay := { s.relay with taken := false, lastRecord := s.intervalRecord.getD s.relay.lastRecord }
      link := s.link.giving s.now s.intervalRecord } := by
  unfold State.relayInterval State.intervalRecord
  cases htaken : s.relay.taken <;> cases hzero : s.zeroing
  · simp [State.gives_some, State.gives]
  · simp [State.gives_some, State.gives, zeroedRecord]
  · by_cases hlower : s.envelope.cap < s.relay.lastRecord.cap
    · simp [hlower, State.gives_some, State.gives]
    · simp [hlower, Link.giving]
  · simp [Link.giving]

/-- R145: the continue field with a current holder. -/
theorem State.continueField_of_current {s : State} {h heard : Nat} {m : Mode} (hview : s.monitor.view = s.record.view)
    (hrelay : s.relay.view = s.record.view) (hcurrent : s.record.auth.current? = some h)
    (hmode : s.record.auth.mode? = some m) (hheard : s.monitor.lastHolderAt = some heard) :
    s.continueField = decide (m = .supervise ∧ s.record.auth.state ≠ .assist ∧ s.envelope.permit = true ∧
      (s.now - heard) / 1000 ≤ 8 * s.settings.p) := by
  have hstate : decide (s.record.auth.state = .held ∨ s.record.auth.state = .transfer) =
      decide (s.record.auth.state ≠ .assist) := by
    cases hauth : s.record.auth <;> simp_all [Authority.current?, Authority.state]
  simp only [State.continueField, hrelay, Record.view, hmode, State.age?_of_current hview hcurrent hheard, hstate,
    Option.some.injEq]
  rw [Bool.eq_iff_iff]
  simp [and_assoc]

/-- R148: the REPEAT record with a current holder. -/
theorem State.repeatRecord_of_current {s : State} {h heard : Nat} {m : Mode} (hview : s.monitor.view = s.record.view)
    (hrelay : s.relay.view = s.record.view) (hcurrent : s.record.auth.current? = some h)
    (hmode : s.record.auth.mode? = some m) (hheard : s.monitor.lastHolderAt = some heard) :
    s.repeatRecord =
      let age := (s.now - heard) / 1000
      let last := s.relay.lastRecord
      { mode := last.mode, steer := last.steer
        travel := if 2 * s.settings.p < age then 0
          else max (-(min s.envelope.cap s.settings.vrev : Nat)) (min last.travel s.envelope.cap)
        boom := if 2 * s.settings.p < age then 0 else last.boom
        bucket := if 2 * s.settings.p < age then 0 else last.bucket
        cap := s.envelope.cap
        continueOk := decide (m = .supervise ∧ s.record.auth.state ≠ .assist ∧ s.envelope.permit = true ∧
          age ≤ 8 * s.settings.p)
        motion := s.discrete.motionEnable } := by
  simp only [State.repeatRecord, State.agePastFresh, State.age?_of_current hview hcurrent hheard,
    State.continueField_of_current hview hrelay hcurrent hmode hheard, State.clampTravel, clampInt, decide_eq_true_eq]

theorem State.exec_envelopeInterval {s : State} {due : Nat} (hloader : s.activeAs .loader = true)
    (htimer : s.envelope.timer = some due) :
    exec .envelopeIntervalExpiry s = .next (s.measured due).relayInterval := by
  show execEnvelopeIntervalExpiry s = _
  simp only [execEnvelopeIntervalExpiry, hloader, htimer]
  rfl

/-- Settles O27: with a current holder, and without. -/
theorem anIntervalScoresTheSlotAndRaisesTheCap : Obligations.AnIntervalScoresTheSlotAndRaisesTheCap := by
  refine ⟨?_, ?_⟩
  · intro s h due heard m hloader htimer hcurrent hmode hview hrelay hheard hlength now state window age vq tf tl va vb vp
      vz zeroing cap last repeated given
    set u : State := { s with
      now, envelope := { s.envelope with timer := some (now + ms s.settings.p) }
      monitor := { s.monitor with window, openMark := false } } with hu
    have hdrive : s.monitor.driveHold = decide (m = .drive) := by
      simp [Monitor.driveHold, hview, Record.view, hcurrent, hmode]
    have hscored : s.measured due = u.evaluate .interval := by
      have hslot : State.scoreSlot { s.reach due with envelope := { s.envelope with
          timer := some (now + State.periods 1 s) } } = u := by
        simp [State.scoreSlot, hdrive, hu, window, State.reach, State.periods, now]
      rw [← hslot]
      rfl
    have hwindow : window.length = 8 := by
      simp only [window]
      split <;> simp [hlength]
    have hcap : u.capOf .interval = cap := by
      rw [State.capOf_interval (s := u) hview hcurrent, State.zoneTerm_eq,
        State.holdTerm_of_current (s := u) hview hcurrent hmode hheard hwindow]
      rfl
    set v : State := { u with envelope := { u.envelope with cap } } with hv
    have hevaluated : u.evaluate .interval = v := by
      rw [hv, ← hcap]
      rfl
    have hrepeat : v.repeatRecord = repeated :=
      State.repeatRecord_of_current (s := v) hview hrelay hcurrent hmode hheard
    have hgiven : v.intervalRecord = given := by
      unfold State.intervalRecord
      rw [hrepeat]
      exact if_congr (State.zeroing_of_current (s := v) hcurrent) rfl rfl
    rw [State.exec_envelopeInterval hloader htimer, hscored, hevaluated, State.relayInterval_eq, hgiven]
    rfl
  · intro s due hloader htimer hnone hview now
    set u : State := { s with
      now, envelope := { s.envelope with timer := some (now + ms s.settings.p) }
      monitor := { s.monitor with openMark := false } } with hu
    have hdrive : s.monitor.driveHold = false := by simp [Monitor.driveHold, hview, Record.view, hnone]
    have hscored : s.measured due = u.evaluate .interval := by
      have hslot : State.scoreSlot { s.reach due with envelope := { s.envelope with
          timer := some (now + State.periods 1 s) } } = u := by
        simp [State.scoreSlot, hdrive, hu, State.reach, State.periods, now]
      rw [← hslot]
      rfl
    set v : State := { u with envelope := { u.envelope with cap := 0 } } with hv
    have hevaluated : u.evaluate .interval = v := by
      have hcap : u.capOf .interval = 0 := State.capOf_of_no_current .interval (s := u) hview hnone
      rw [hv, ← hcap]
      rfl
    have hzero : v.zeroing = true := by
      have hstate : s.record.auth.state = .free ∨ s.record.auth.state = .orphan := by
        cases hauth : s.record.auth <;> simp_all [Authority.current?, Authority.state]
      have hstate' : v.record.auth.state = .free ∨ v.record.auth.state = .orphan := hstate
      simp [State.zeroing, hstate']
    have hgiven : v.intervalRecord = if s.relay.taken = true then none else some {} := if_pos hzero
    rw [State.exec_envelopeInterval hloader htimer, hscored, hevaluated, State.relayInterval_eq, hgiven]
    by_cases htaken : s.relay.taken = true
    · simp only [htaken, if_true]
      rfl
    · simp only [htaken]
      rfl

end Sys2Proof.Machine
end

/-!
PROOFS. The machine controller's requests, and the requests that read (R44 to R46, R50, R69, R101, R165, R177, R179).
-/
section

namespace Sys2Proof.Machine

/-! ### A change of the record by a request (R44, R46, R165) -/

/-- R182: after a STATE notice what posts no notice and raises no flag may happen. -/
theorem Link.StatePosted.then {n : Notice} {k₁ k₂ k₃ : Link} (h : k₁.StatePosted n k₂) (h' : k₂.Beside [] 0 k₃) :
    k₁.StatePosted n k₃ := by
  obtain ⟨hstream, hbusy, hreport, hrestart, hmark, hflags, hmask, hattn, hoverflow, herrors⟩ := h
  obtain ⟨hstream', -, hoverflow', herrors', hrestart', hreport', hmark', hmask', hbusy', hflags', hattn'⟩ := h'
  exact ⟨(hstream'.trans (List.append_nil _)).trans hstream, hbusy'.trans hbusy, hreport'.trans hreport,
    hrestart'.trans hrestart, hmark'.trans hmark, (by simpa using hflags' : _ = _).trans hflags, hmask'.trans hmask,
    (by simpa using hattn' : _ = _).trans hattn, hoverflow'.trans hoverflow, herrors'.trans herrors⟩

/-- R131, R176: a change of the record made by a request, beside its response. -/
theorem State.TurnedInto.answered {s t : State} {auth : Authority} {k : Link} (h : s.taken.TurnedInto auth t)
    (hbeside : t.link.Beside [] 0 k) (hruns : t.link.Runs k) : s.TurnedInto auth { t with link := k } := by
  obtain ⟨hkeeps, hfollows, hrecord, hmonitor, hpermit, hcap, htaken, hlast, hgave, hjoined⟩ := h
  obtain ⟨-, -, -, -, -, hreport, -⟩ := hbeside
  refine ⟨hkeeps, hfollows, hrecord, hmonitor, hpermit, hcap, htaken, hlast, (hgave.of_same).then hruns, ?_⟩
  rwa [State.statusFrame_congr (s := t) (hreport := hreport)]

/-- R182: a change made by a request is posted as it would be without one. -/
theorem Link.StatePosted.answered {s : State} {n : Notice} {k k' : Link} (h : s.taken.link.StatePosted n k)
    (h' : k.Beside [] 0 k') : s.link.StatePosted n k' :=
  (h.after s.taken_beside).then h'

/-- R45: in another state ASSIST_RAISE is refused. -/
theorem State.raiseAssist_refused {s : State} (h : ∀ a o, s.record.auth ≠ .held a .supervise o) (location : Half) :
    s.raiseAssist location = (s, { code := .notSupervised }) := by
  unfold State.raiseAssist
  split
  · next a o hauth => exact absurd hauth (h a o)
  all_goals rfl

theorem State.cancelAssist_refused {s : State} (h : ∀ a l n, s.record.auth ≠ .assist a l n) :
    s.cancelAssist = (s, { code := .notAssist }) := by
  unfold State.cancelAssist
  split
  · next a l n hauth => exact absurd hauth (h a l n)
  all_goals rfl

/-- R174: a request that only answers. -/
theorem State.Admits.answers {kind : Byte} {role : RequestRole} {s : State} (h : s.Admits kind role) (tag : Byte)
    {act : State → State × Answer} {a : Answer} (hact : act s.taken = (s.taken, a)) :
    ∃ k, s.request kind tag true role act = { s with link := k } ∧ s.link.Replies kind tag a.code a.contents [] 0 k := by
  obtain ⟨k, hrequest, hanswers, hbeside, -, -⟩ := h.carried tag act (by rw [hact]; exact ⟨rfl, rfl, rfl⟩)
  rw [hact] at hrequest hanswers hbeside
  exact ⟨k, hrequest, hanswers, s.taken_beside.trans hbeside⟩

theorem State.Awaits.activeAs {r : Role} {s : State} (h : s.Awaits (some r)) : s.activeAs r = true := by
  obtain ⟨hservice, -, -, hrunning, hrole⟩ := h
  have hrole' : s.startup.role = r := by simpa [eq_comm] using hrole
  simp [State.activeAs, State.active, hservice, hrunning, hrole']

/-- Settles O29: ASSIST_RAISE and ASSIST_CANCEL, each carried out and refused. -/
theorem anAssistIsRaisedAndCancelled : Obligations.AnAssistIsRaisedAndCancelled := by
  intro s tag location h
  have hloader : s.taken.activeAs .loader = true := h.activeAs
  refine ⟨?_, ?_, ?_, ?_⟩
  · intro holder o hauth hclass hroom
    obtain ⟨hcall, hjoined⟩ := State.callAssist_spec (s := s.taken) (State.activeAs_iff.mp hloader).1 hclass location
    set q := (s.taken.callAssist location).liu
    obtain ⟨hturned, hposted, hslot⟩ := State.changeState_spec (s := State.taken { s with liu := q }) hloader hroom
      (.assist holder location (s.now + sec 2))
    have hact : State.raiseAssist location s.taken =
        ((State.taken { s with liu := q }).changeState (.assist holder location (s.now + sec 2)), { code := .ok }) := by
      have hauth' : s.taken.record.auth = .held holder .supervise o := hauth
      unfold State.raiseAssist
      rw [hauth']
      simp only
      rw [hcall]
      rfl
    obtain ⟨k, hrequest, hanswers, hbeside, hruns, -⟩ := (h.admits 0x31).carried tag (State.raiseAssist location)
      (by rw [hact]; exact hslot)
    rw [hact] at hrequest hanswers hbeside hruns
    exact ⟨q, _, congrArg Host.Outcome.next hrequest, hjoined, hturned.answered hbeside hruns,
      hposted.answered (s := { s with liu := q }) hbeside, hanswers⟩
  · intro hother
    obtain ⟨k, hrequest, hreplies⟩ :=
      (h.admits 0x31).answers tag (State.raiseAssist_refused (s := s.taken) hother location)
    exact ⟨k, congrArg Host.Outcome.next hrequest, hreplies⟩
  · intro holder loc n hauth hroom
    obtain ⟨hturned, hposted, hslot⟩ := State.changeState_spec (s := s.taken) hloader hroom
      (.held holder .supervise none)
    have hact : s.taken.cancelAssist = (s.taken.changeState (.held holder .supervise none), { code := .ok }) := by
      have hauth' : s.taken.record.auth = .assist holder loc n := hauth
      unfold State.cancelAssist
      rw [hauth']
    obtain ⟨k, hrequest, hanswers, hbeside, hruns, -⟩ := (h.admits 0x32).carried tag State.cancelAssist
      (by rw [hact]; exact hslot)
    rw [hact] at hrequest hanswers hbeside hruns
    exact ⟨_, congrArg Host.Outcome.next hrequest, hturned.answered hbeside hruns, hposted.answered hbeside, hanswers⟩
  · intro hother
    obtain ⟨k, hrequest, hreplies⟩ := (h.admits 0x32).answers tag (State.cancelAssist_refused (s := s.taken) hother)
    exact ⟨k, congrArg Host.Outcome.next hrequest, hreplies⟩

/-! ### LOCAL_STOP and REPORT (R165, R179) -/

/-- R179: the zone of a REPORT as it is kept. -/
theorem zoneByte_zoneOf (zone : Byte) : zoneByte (zoneOf zone) = byte ((zoneOf zone).getD 255) := by
  cases zoneOf zone <;> rfl

/-- R179: the state after a REPORT has been taken, before the Relay acts. -/
def State.reported (r : Report) (s : State) : State :=
  State.evaluate .lowering { s with link := { s.link with lastReport := some r } }

/-- R151, R179: the Relay acts on the lowering evaluation of a REPORT. -/
theorem State.takeReport_eq (speed location : Half) (zone : Byte) (s : State) :
    s.takeReport speed location zone =
      ((s.reported ⟨speed, location, zoneOf zone, s.now⟩).gives
          (s.loweredRecord (s.reported ⟨speed, location, zoneOf zone, s.now⟩)),
        { code := .ok
          contents := bytesOfHalf speed ++ bytesOfHalf location ++ [byte ((zoneOf zone).getD 255),
            byte (s.reported ⟨speed, location, zoneOf zone, s.now⟩).envelope.cap] }) := by
  have hlowered : (s.reported ⟨speed, location, zoneOf zone, s.now⟩).relayLowered s = _ :=
    State.relayLowered_eq (s := s) rfl
  rw [← zoneByte_zoneOf, ← hlowered]
  have hcap : ((s.reported ⟨speed, location, zoneOf zone, s.now⟩).relayLowered s).envelope.cap =
      (s.reported ⟨speed, location, zoneOf zone, s.now⟩).envelope.cap := by rw [hlowered]; rfl
  rw [← hcap]
  rfl

/-- Settles O30: LOCAL_STOP, and REPORT. -/
theorem theMachineControllerStopsAndReports : Obligations.TheMachineControllerStopsAndReports := by
  refine ⟨?_, ?_⟩
  · intro s tag h hroom
    obtain ⟨⟨hframe, hjoined⟩, hgave, hposts⟩ := State.setLatch_spec (s := s.taken)
      (State.activeAs_iff.mp (by exact h.activeAs)).1 .localStop
    obtain ⟨hbeside, hslot⟩ := hposts hroom
    obtain ⟨k, hrequest, hanswers, hafter, hruns, -⟩ := (h.admits 0x33).carried tag State.localStop hslot
    refine ⟨_, congrArg Host.Outcome.next hrequest, ⟨?_, ?_⟩, (hgave.of_same).then hruns, hanswers, ?_⟩
    · show { s.taken.setLatch .localStop with link := k } = _
      conv_lhs => rw [hframe]
      rfl
    · rwa [State.statusFrame_congr (s := s.taken.setLatch .localStop) (hreport := by
        obtain ⟨-, -, -, -, -, hreport, -⟩ := hafter
        exact hreport)]
    · show s.link.Beside (s.taken.latchNotices .localStop) 0x0004 k
      simpa using s.taken_beside.trans (hbeside.trans hafter)
  · intro s tag speed location zone h limit report cap
    have hact := State.takeReport_eq speed location zone s.taken
    set u := s.taken.reported report with hu
    set given := s.taken.loweredRecord u with hgiven
    have hgiving := Link.giving_posts s.now given u.link
    obtain ⟨k, hrequest, hanswers, hbeside, hruns, -⟩ := (h.admits 0x30).carried tag
      (State.takeReport speed location zone) (by
        rw [hact]
        obtain ⟨-, hslot⟩ := hgiving
        exact hslot)
    rw [hact] at hrequest hanswers hbeside hruns
    obtain ⟨hstream, hqueue, -, -, hrestart, hreport, hmark, hmask, -, hflags, hattn⟩ := hgiving.1.trans hbeside
    obtain ⟨-, hcredit, -⟩ := hqueue rfl
    refine ⟨_, congrArg Host.Outcome.next hrequest, rfl, ?_, hreport, hanswers, ?_, ?_, ?_, hmask, hcredit, hmark, hrestart⟩
    · have hgave : s.link.Gave s.now given (u.link.giving s.now given) :=
        (Link.giving_gave s.now given u.link).of_same
      exact hgave.then hruns
    · exact hstream.trans (List.append_nil _)
    · show k.flags = u.link.flags
      simpa using hflags
    · show k.attn = u.link.attn
      simpa using hattn

/-! ### The requests that read (R50, R69, R101, R177) -/

/-- Settles O31, request by request. -/
theorem readingChangesOnlyTheAlertLatches : Obligations.ReadingChangesOnlyTheAlertLatches := by
  intro s tag
  refine ⟨fun h => ?_, fun h => ?_, fun h => ?_, fun h => ?_, fun h => ?_⟩
  · obtain ⟨k, hrequest, hreplies⟩ := (h.admits 0x34).answers tag (act := State.readRecord) rfl
    exact ⟨k, congrArg Host.Outcome.next hrequest, hreplies⟩
  · obtain ⟨k, hrequest, hreplies⟩ := (h.admits 0x22).answers tag (act := State.readBoard) rfl
    exact ⟨k, congrArg Host.Outcome.next hrequest, hreplies⟩
  · obtain ⟨k, hrequest, hanswers, hbeside, -, -⟩ := (h.admits 0x21).carried tag State.readHolds ⟨rfl, rfl, rfl⟩
    exact ⟨k, congrArg Host.Outcome.next hrequest, hanswers, s.taken_beside.trans hbeside⟩
  · have hadmits : s.Admits 0x01 none := h.elim (·.admits 0x01) (·.admits (.inl rfl))
    obtain ⟨k, hrequest, hreplies⟩ := hadmits.answers tag (act := State.readIdentity) rfl
    refine ⟨k, congrArg Host.Outcome.next hrequest, ?_⟩
    have hcontents : bytesOfHalf Config.partCode ++ [Config.revision, roleCode s.startup.role, byte s.station] =
        [0x53, 0x24, 1, (match s.startup.role with | .chair => 1 | .loader => 2), byte s.startup.station] := by
      cases s.startup.role <;> rfl
    exact hcontents ▸ hreplies
  · obtain ⟨k, hrequest, hreplies⟩ := (h.admits 0x06).answers tag (act := State.readCounters) rfl
    exact ⟨k, congrArg Host.Outcome.next hrequest, hreplies⟩

end Sys2Proof.Machine
end

/-!
PROOFS. The Hold Table's operations (R54 to R58, R66, R71, R81, R142): a notice told, an entry removed, an outstanding
frame given, and an entry added, claimed again, released, or taken into HELD.
-/
section

namespace Sys2Proof.Machine

/-! ### Notices of the chair's blocks (R81, R182) -/

theorem Link.placeNotice_length_le (n : Notice) (k : Link) :
    (k.placeNotice n).notices.length ≤ k.notices.length + 1 := by
  have hreplace : ∀ l : List Notice, (replaceState n l).length = l.length := by
    intro l
    induction l with
    | nil => rfl
    | cons m rest ih => unfold replaceState; split <;> simp [ih]
  unfold Link.placeNotice
  split
  · simp [hreplace]
  · split <;> simp

theorem Link.start_length_le (now : Nat) (k : Link) : (k.start now).notices.length ≤ k.notices.length := by
  rcases k.start_cases now with h | ⟨_, _, _, h⟩ | ⟨_, _, _, _, _, h⟩ | ⟨_, _, _, _, _, h⟩ | ⟨_, _, _, _, _, hn, _, h⟩
  case inr.inr.inr.inr => rw [h, hn]; simp
  all_goals rw [h]

/-- R182: a notice posted fills one place of the queue at most. -/
theorem State.post_length_le (n : Notice) (s : State) :
    (s.post n).link.notices.length ≤ s.link.notices.length + 1 :=
  (Link.start_length_le _ _).trans (Link.placeNotice_length_le n s.link)

theorem State.tell_length_le (n : Notice) (s : State) :
    (s.tell n).link.notices.length ≤ s.link.notices.length + 1 := by
  unfold State.tell
  split
  · simpa [State.raise] using State.post_length_le n s
  · exact State.post_length_le n s

/-- R81: the flag that the Engine raises with a notice. -/
def Notice.holdFlag (n : Notice) : Half := if n.losesHold then 0x0002 else 0

/-- R81, R182: a notice that the Engine posts with room, and HOLD_LOST with LOST and SUSPENDED. -/
theorem State.tell_posts {n : Notice} {s : State} (hstate : n.isState = false) (hroom : s.link.notices.length < 32) :
    s.link.Posts [n] n.holdFlag (s.tell n).link := by
  have hpost := State.post_posts hstate hroom
  unfold State.tell Notice.holdFlag
  split
  · exact hpost.trans (Link.raise_posts .holdLost _)
  · exact hpost

/-! ### Removal (R54, R81) -/

/-- R54, R81: the notices and the flag of a removal, after the notices `before` of the same event. -/
theorem State.leave_posts {s : State} {k : Link} {before : List Notice} {n : Notice} (hk : s.link.Posts before 0 k)
    (hroom : k.notices.length < 31) (loader : Nat) (hstate : n.isState = false) :
    s.link.Posts
      (before ++ [n] ++
        if s.holds.posture = .standingDown ∧ s.holds.entries.filter (·.loader ≠ loader) = [] then [.posture .vacant]
        else [])
      n.holdFlag ({ s with link := k }.leave loader n).link := by
  let t : State :=
    { s with link := k, holds := { s.holds with entries := s.holds.entries.filter (·.loader ≠ loader) } }
  have htold : k.Posts [n] n.holdFlag (t.tell n).link :=
    State.tell_posts (s := t) hstate (by exact Nat.lt_succ_of_lt hroom)
  have hfull : (t.tell n).link.notices.length ≤ k.notices.length + 1 := State.tell_length_le n t
  have hholds : (t.tell n).holds = t.holds := State.tell_holds n t
  show s.link.Posts _ _ (t.tell n).settlePosture.link
  unfold State.settlePosture
  rw [hholds]
  simp only [List.isEmpty_iff]
  split
  · have hposture := State.post_posts (n := .posture .vacant)
      (s := { t.tell n with holds := { t.holds with posture := .vacant } }) rfl
      (by show (t.tell n).link.notices.length < 32; omega)
    simpa using (hk.trans htold).trans hposture
  · simpa using hk.trans htold

/-- R54, R81: an entry removed with a notice, after the notices `before` of the same event. -/
theorem State.leave_after {s : State} {k : Link} {before : List Notice} {n : Notice} (hk : s.link.Posts before 0 k)
    (hroom : k.notices.length < 31) (loader : Nat) (hstate : n.isState = false := by rfl)
    (hkind : ∀ l m c, n ≠ .suspended l m c := by nofun) :
    s.EntryLeft loader before n ({ s with link := k }.leave loader n) := by
  have hposts := State.leave_posts hk hroom loader hstate
  refine ⟨State.leave_frame loader n { s with link := k }, ?_⟩
  cases n with
  | suspended l m c => exact absurd rfl (hkind l m c)
  | _ => exact hposts

theorem State.leave_spec {s : State} (loader : Nat) {n : Notice} (hroom : s.link.notices.length < 31)
    (hstate : n.isState = false := by rfl) (hkind : ∀ l m c, n ≠ .suspended l m c := by nofun) :
    s.EntryLeft loader [] n (s.leave loader n) :=
  State.leave_after (.refl s.link) hroom loader hstate hkind

/-! ### Entries (R56, R57, R142) -/

theorem Entry.takeMode_eq (m : Mode) (e : Entry) :
    e.takeMode m = { e with mode := m, continueOk := e.continueIn m } := by
  cases m <;> rfl

theorem Entry.enter_acquiring (g : Origin) (o : Outstanding) (e : Entry) :
    e.enter (.acquiring g o) = { e with phase := .acquiring g o, supervise := none } := by
  simp [Entry.enter, Entry.settleSupervise, Entry.supervised]

theorem Entry.enter_releasing (o : Outstanding) (e : Entry) :
    e.enter (.releasing o) = { e with phase := .releasing o, supervise := none } := by
  simp [Entry.enter, Entry.settleSupervise, Entry.supervised]

theorem Entry.enter_suspended (e : Entry) :
    e.enter .suspended = { e with phase := .suspended, supervise := none } := by
  simp [Entry.enter, Entry.settleSupervise, Entry.supervised]

theorem Entry.enter_held (o : Option LastOffer) (e : Entry) :
    e.enter (.held o) =
      { e with phase := .held o, supervise := if e.mode = .supervise then e.supervise else none } := by
  cases hmode : e.mode <;> simp [Entry.enter, Entry.settleSupervise, Entry.supervised, hmode]

theorem State.mapEntry_congr {loader : Nat} {f g : Entry → Entry} (s : State) (h : ∀ e, f e = g e) :
    s.mapEntry loader f = s.mapEntry loader g := by
  rw [funext h]

/-- Two changes of one entry, one after the other. -/
theorem State.mapEntry_mapEntry {loader : Nat} {f g : Entry → Entry} (s : State) (hloader : ∀ e, (f e).loader = e.loader) :
    (s.mapEntry loader f).mapEntry loader g = s.mapEntry loader (g ∘ f) := by
  simp only [State.mapEntry, List.map_map]
  congr 3
  funext e
  by_cases he : e.loader = loader <;> simp [he, hloader]

/-- The entry of a loader after it has been changed. -/
theorem State.mapEntry_entry? {loader : Nat} {f : Entry → Entry} {s : State} {e : Entry} (h : s.entry? loader = some e)
    (hloader : ∀ e, (f e).loader = e.loader) : (s.mapEntry loader f).entry? loader = some (f e) := by
  unfold State.entry? State.mapEntry at *
  simp only [List.find?_map]
  have hsame : ((fun x : Entry => decide (x.loader = loader)) ∘ fun e => if e.loader = loader then f e else e) =
      fun x => decide (x.loader = loader) := by
    funext x
    by_cases hx : x.loader = loader <;> simp [hx, hloader]
  rw [hsame, h]
  have : e.loader = loader := by simpa using List.find?_some h
  simp [this]

/-! ### Outstanding frames (R57) -/

/-- R57: an outstanding frame given with room in class A. -/
theorem State.giveOut_spec {s : State} (hactive : s.active = true) (hclass : s.liu.classA.length < 8) (loader : Nat)
    (o : Outstanding) :
    ∃ q, s.giveOut loader o = { s with holds := { s.holds with nextRef := s.holds.nextRef + 1 }, liu := q } ∧
      Liu.Joined (o.frame loader) s.liu q := by
  have hroom : s.liu.HasRoom (o.frame loader) := by
    unfold Liu.HasRoom Outstanding.frame TxFrame.make
    cases o.kind <;> exact hclass
  obtain ⟨hframe, hjoined, -⟩ := State.give_spec _ s hactive hroom
  refine ⟨_, ?_, hjoined⟩
  unfold State.giveOut
  rw [hframe]

/-- R55, R56, R57, R60, R114: an entry added with room in class A. -/
theorem State.addEntry_spec {s : State} (hactive : s.active = true) (hclass : s.liu.classA.length < 8) (loader : Nat)
    (kind : OutKind) (m : Mode) (epoch : Epoch) :
    s.EntryAdded loader kind m epoch (s.addEntry loader kind m epoch) ∧
      (s.addEntry loader kind m epoch).link = s.link := by
  obtain ⟨q, hgive, hjoined⟩ := State.giveOut_spec hactive hclass loader (s.newOut kind (some m) epoch)
  unfold State.addEntry
  simp only [hgive]
  exact ⟨⟨rfl, hjoined⟩, trivial⟩

/-- R56, R57, R61, R63, R77: an entry that claims again, with room in class A. -/
theorem State.claimAgain_spec {s : State} (hactive : s.active = true) (hclass : s.liu.classA.length < 8) (loader : Nat)
    (g : Origin) (m : Mode) (epoch : Epoch) :
    s.ClaimedAgain loader g m epoch (s.claimAgain loader g m epoch) ∧
      (s.claimAgain loader g m epoch).link = s.link := by
  obtain ⟨q, hgive, hjoined⟩ := State.giveOut_spec hactive hclass loader (s.newOut .claim (some m) epoch)
  unfold State.claimAgain
  simp only [hgive, Entry.enter_acquiring, Entry.takeMode_eq]
  exact ⟨⟨rfl, hjoined⟩, rfl⟩

/-- R56, R57, R66: a release, with room in class A. -/
theorem State.sendRelease_spec {s : State} (hactive : s.active = true) (hclass : s.liu.classA.length < 8) (loader : Nat)
    (epoch : Epoch) : s.ReleasedWith loader none epoch (s.sendRelease loader epoch) ∧
      (s.sendRelease loader epoch).link = s.link := by
  obtain ⟨q, hgive, hjoined⟩ := State.giveOut_spec hactive hclass loader (s.newOut .release none epoch)
  unfold State.sendRelease
  simp only [hgive, Entry.enter_releasing]
  exact ⟨⟨rfl, hjoined⟩, rfl⟩

/-- R71: a release started over in a mode newly taken, with room in class A. -/
theorem State.releaseOver_spec {s : State} (hactive : s.active = true) (hclass : s.liu.classA.length < 8) (loader : Nat)
    (m : Mode) (epoch : Epoch) :
    s.ReleasedWith loader (some m) epoch (s.releaseOver loader m epoch) ∧
      (s.releaseOver loader m epoch).link = s.link := by
  obtain ⟨q, hgive, hjoined⟩ := State.giveOut_spec (s := s.mapEntry loader (·.takeMode m)) hactive hclass loader
    ((s.mapEntry loader (·.takeMode m)).newOut .release none epoch)
  unfold State.releaseOver State.sendRelease
  simp only [hgive, Entry.enter_releasing]
  refine ⟨⟨?_, hjoined⟩, rfl⟩
  simp only [State.mapEntry, List.map_map]
  congr 3
  funext x
  by_cases hx : x.loader = loader
  · simp [hx, Entry.takeMode_eq]
    rfl
  · simp [hx]

/-! ### HELD (R56, R71 to R73, R142) -/

/-- R56, R71 to R73: an entry as it enters HELD in a mode, with a new epoch or its own. -/
def Entry.heldAs (m : Mode) (epoch : Option Epoch) (x : Entry) : Entry :=
  Entry.enter (.held none) { x.takeMode m with epoch := epoch.getD x.epoch }

theorem Entry.heldAs_eq (m : Mode) (epoch : Option Epoch) (x : Entry) :
    x.heldAs m epoch =
      { x with
        mode := m, continueOk := x.continueIn m, phase := .held none, epoch := epoch.getD x.epoch
        supervise := if m = .supervise then x.supervise else none } := by
  unfold Entry.heldAs
  rw [Entry.enter_held, Entry.takeMode_eq]

theorem Entry.heldAs_supervised (m : Mode) (epoch : Option Epoch) (x : Entry) :
    (x.heldAs m epoch).supervised = decide (m = .supervise) := by
  simp [Entry.heldAs_eq, Entry.supervised]

/-- R142: a SUPERVISE frame given for the entry of a loader that is due one. -/
theorem State.giveSupervise_spec {s : State} {e : Entry} {loader : Nat} (hactive : s.active = true)
    (he : s.entry? loader = some e) (hsupervised : e.supervised = true) :
    ∃ q, s.giveSupervise loader =
        { s.mapEntry loader (fun x => { x with supervise := some (s.now + ms (4 * s.settings.p)) }) with liu := q } ∧
      Liu.Joined (superviseFrame e) s.liu q := by
  obtain ⟨hframe, hjoined, -⟩ := State.give_spec (superviseFrame e) s hactive trivial
  refine ⟨_, ?_, hjoined⟩
  unfold State.giveSupervise
  rw [he]
  simp only [hsupervised, if_true]
  rw [hframe]
  rfl

theorem State.giveSupervise_of_not {s : State} {e : Entry} {loader : Nat} (he : s.entry? loader = some e)
    (hsupervised : e.supervised = false) : s.giveSupervise loader = s := by
  unfold State.giveSupervise
  rw [he]
  simp [hsupervised]

/-- R71 to R73, R142: an entry that enters HELD, with what has been posted meanwhile. -/
theorem State.heldAs_spec {s : State} {e : Entry} {loader : Nat} (hactive : s.active = true)
    (he : s.entry? loader = some e) (m : Mode) (epoch : Option Epoch) (k : Link) :
    s.HeldIn e m epoch ({ s.mapEntry loader (Entry.heldAs m epoch) with link := k }.giveSupervise loader) ∧
      ({ s.mapEntry loader (Entry.heldAs m epoch) with link := k }.giveSupervise loader).link = k := by
  obtain ⟨hloader, -⟩ := State.entry?_some he
  let u : State := { s.mapEntry loader (Entry.heldAs m epoch) with link := k }
  have hu : u.entry? loader = some (e.heldAs m epoch) :=
    State.mapEntry_entry? he (f := Entry.heldAs m epoch) fun x => by rw [Entry.heldAs_eq]
  have hsupervised := e.heldAs_supervised m epoch
  cases m with
  | drive =>
    rw [State.giveSupervise_of_not hu (by rw [hsupervised]; rfl)]
    refine ⟨⟨?_, fun _ => rfl, nofun⟩, rfl⟩
    simp only [hloader]
    rfl
  | supervise =>
    obtain ⟨q, hgive, hjoined⟩ := State.giveSupervise_spec (s := u) hactive hu (by rw [hsupervised]; rfl)
    rw [show giveSupervise loader _ = _ from hgive]
    refine ⟨⟨?_, nofun, fun _ => ?_⟩, rfl⟩
    · simp only [State.mapEntry, List.map_map, u, hloader]
      congr 3
      funext x
      by_cases hx : x.loader = loader
      · simp [hx, Entry.heldAs_eq]
        rfl
      · simp [hx]
    · simp only [superviseFrame, Entry.heldAs_eq, byteOfBool] at hjoined
      exact hjoined

/-- R71 to R73, R81, R142: an entry that enters HELD, with the notice told after the notices `before`. -/
theorem State.heldAs_told {s : State} {e : Entry} {k : Link} {before : List Notice} {loader : Nat} {n : Notice}
    (hactive : s.active = true) (he : s.entry? loader = some e) (hk : s.link.Posts before 0 k)
    (hroom : k.notices.length < 32) (m : Mode) (epoch : Option Epoch) (hstate : n.isState = false := by rfl) :
    let t := (({ s with link := k }.mapEntry loader (Entry.heldAs m epoch)).tell n).giveSupervise loader
    s.HeldIn e m epoch t ∧ s.link.Posts (before ++ [n]) n.holdFlag t.link := by
  intro t
  let u : State := { s with link := k }.mapEntry loader (Entry.heldAs m epoch)
  have htold : k.Posts [n] n.holdFlag (u.tell n).link := State.tell_posts (s := u) hstate hroom
  have ht : t = ({ s.mapEntry loader (Entry.heldAs m epoch) with link := (u.tell n).link }).giveSupervise loader := by
    show (u.tell n).giveSupervise loader = _
    rw [State.tell_frame]
    rfl
  obtain ⟨hheld, hlink⟩ := State.heldAs_spec hactive he m epoch (u.tell n).link
  rw [← ht] at hheld hlink
  exact ⟨hheld, hlink ▸ by simpa using hk.trans htold⟩

/-! ### What a chair takes off the line (R11) -/

theorem State.TakesAsChair.exec_receptionComplete {s : State} {f : RxFrame} (h : s.TakesAsChair f) :
    exec .receptionComplete s = .next (s.received.deliverChair f) := by
  obtain ⟨hreceives, hrole, hsource⟩ := h
  rw [hreceives.exec_receptionComplete]
  have hsource' : ¬ f.source = s.received.station := hsource
  have hrole' : s.received.startup.role = .chair := hrole
  unfold State.takeFrame
  rw [if_neg hsource', hrole']

theorem State.TakesAsChair.active {s : State} {f : RxFrame} (h : s.TakesAsChair f) : s.received.active = true := h.1.1

section kinds
variable {s : State} {f : RxFrame}

theorem State.TakesAsChair.grant (h : s.TakesAsChair f) (hkind : f.kind = .grant) :
    exec .receptionComplete s = .next (s.received.chairGrant f) := by
  rw [h.exec_receptionComplete, State.deliverChair, hkind]

theorem State.TakesAsChair.status (h : s.TakesAsChair f) (hkind : f.kind = .status) :
    exec .receptionComplete s = .next (s.received.chairStatus f) := by
  rw [h.exec_receptionComplete, State.deliverChair, hkind]

theorem State.TakesAsChair.refuse (h : s.TakesAsChair f) (hkind : f.kind = .refuse) :
    exec .receptionComplete s = .next (s.received.chairAnswer State.refuseAtEngine f) := by
  rw [h.exec_receptionComplete, State.deliverChair, hkind]

theorem State.TakesAsChair.decline (h : s.TakesAsChair f) (hkind : f.kind = .decline) :
    exec .receptionComplete s = .next (s.received.chairAnswer State.declineAtEngine f) := by
  rw [h.exec_receptionComplete, State.deliverChair, hkind]

theorem State.TakesAsChair.assistCall (h : s.TakesAsChair f) (hkind : f.kind = .assistCall) :
    exec .receptionComplete s = .next (s.received.chairAssist f) := by
  rw [h.exec_receptionComplete, State.deliverChair, hkind]

end kinds

/-- R80: one RELEASE for a loader, and DISOWNED. -/
theorem State.disown_spec {s : State} {f : RxFrame} (hactive : s.active = true) (hclass : s.liu.classA.length < 8)
    (hroom : s.link.notices.length < 32) : s.Disowned f.loader f.epoch (s.disown f) := by
  obtain ⟨hframe, hjoined, -⟩ :=
    State.give_spec (TxFrame.make .release f.loader f.loader f.epoch []) s hactive (by exact hclass)
  unfold State.disown
  rw [hframe]
  exact ⟨State.tell_frame _ _, by rw [State.tell_liu]; exact hjoined,
    State.tell_posts (n := .disowned f.loader f.epoch) rfl (by exact hroom)⟩

end Sys2Proof.Machine
end

/-!
PROOFS. What a GRANT, a REFUSE, a DECLINE and an ASSIST_CALL do at a chair (R70 to R76, R79, R80).
-/
section

namespace Sys2Proof.Machine

/-- R70: the Boolean test of a completed offer says what the rule says. -/
theorem Phase.completedBy_iff {n : Nat} {p : Phase} : p.completedBy n = true ↔ p.Completes n := by
  cases p with
  | held o =>
    cases o with
    | none => simp [Phase.completedBy, Phase.Completes]
    | some o => cases h : o.target <;> simp [Phase.completedBy, Phase.Completes, Party.completedBy, h]
  | offering o => cases h : o.target <;> simp [Phase.completedBy, Phase.Completes, Party.completedBy, h]
  | acquiring | releasing | suspended => simp [Phase.completedBy, Phase.Completes]

/-- R72, R78: an entry acquired by a REFUSE or a STATUS, after the notices `before`. -/
theorem State.acquired_spec {s : State} {e : Entry} {k : Link} {before : List Notice} {loader : Nat}
    (hactive : s.active = true) (he : s.entry? loader = some e) (hk : s.link.Posts before 0 k)
    (hroom : k.notices.length < 32) (m : Mode) (epoch : Epoch) (source : FrameKind) :
    let t := { s with link := k }.acquired loader m epoch source false
    s.HeldIn e m (some epoch) t ∧ s.link.Posts (before ++ [.acquired loader m epoch source]) 0 t.link := by
  have hkept (x : Entry) : Entry.enter (.held none) { x.takeMode m with epoch, assist := x.assist && !false } =
      x.heldAs m (some epoch) := by simp [Entry.heldAs, Entry.takeMode_eq]
  unfold State.acquired
  simp only [hkept]
  exact State.heldAs_told hactive he hk hroom m (some epoch)

/-- R71: an entry acquired by a GRANT, which clears the assist raised flag. -/
theorem State.granted_spec {s : State} {e : Entry} {loader : Nat} (hactive : s.active = true)
    (he : s.entry? loader = some e) (hroom : s.link.notices.length < 32) (m : Mode) (epoch : Epoch)
    (source : FrameKind) :
    let t := s.acquired loader m epoch source true
    (s.mapEntry loader fun x => { x with assist := false }).HeldIn e m (some epoch) t ∧
      s.link.Posts [.acquired loader m epoch source] 0 t.link := by
  intro t
  let u := s.mapEntry loader fun x => { x with assist := false }
  have hu : u.entry? loader = some { e with assist := false } :=
    State.mapEntry_entry? he (f := fun x => { x with assist := false }) fun _ => rfl
  have hcleared : (s.mapEntry loader fun x =>
        Entry.enter (.held none) { x.takeMode m with epoch, assist := x.assist && !true }) =
      u.mapEntry loader (Entry.heldAs m (some epoch)) := by
    rw [State.mapEntry_mapEntry s (f := fun x => { x with assist := false }) fun _ => rfl]
    refine State.mapEntry_congr s fun x => ?_
    simp [Entry.heldAs, Entry.takeMode_eq, Entry.continueIn]
  have ht : t = ((u.mapEntry loader (Entry.heldAs m (some epoch))).tell
      (.acquired loader m epoch source)).giveSupervise loader := by
    simp only [t, State.acquired, hcleared]
  rw [ht]
  exact State.heldAs_told (s := u) (n := .acquired loader m epoch source) hactive hu (.refl u.link) hroom m (some epoch)

/-! ### GRANT (R70, R71, R80) -/

theorem modeTaken_of {b : Byte} {m : Mode} (h : modeOf? b = some m) : modeTaken b = m := by
  simp [modeTaken, h]

/-- R71: a GRANT to this chair, by the phase of its entry. -/
theorem State.grantMine_of_settled {s : State} {e : Entry} {m : Mode} {epoch : Epoch}
    (h : (∃ o, e.phase = .held o) ∨ (∃ o, e.phase = .offering o) ∨ e.phase = .suspended) :
    s.grantMine e m epoch = if epoch = e.epoch then s else s.acquired e.loader m epoch .grant true := by
  unfold State.grantMine
  rcases h with ⟨o, h⟩ | ⟨o, h⟩ | h <;> rw [h]

theorem State.grantMine_of_acquiring {s : State} {e : Entry} {m : Mode} {epoch : Epoch} {g : Origin} {out : Outstanding}
    (h : e.phase = .acquiring g out) : s.grantMine e m epoch = s.acquired e.loader m epoch .grant true := by
  unfold State.grantMine
  rw [h]

theorem State.grantMine_of_releasing {s : State} {e : Entry} {m : Mode} {epoch : Epoch} {out : Outstanding}
    (h : e.phase = .releasing out) :
    s.grantMine e m epoch =
      if epoch = out.epoch then s.mapEntry e.loader fun e => { e with assist := false }
      else (s.mapEntry e.loader fun e => { e with assist := false }).releaseOver e.loader m epoch := by
  unfold State.grantMine
  rw [h]

/-- R70: a GRANT to another party, or to none, that leaves an ACQUIRING entry. -/
theorem State.grantOther_of_awaited {s : State} {e : Entry} {v : Nat} (h : ∃ g out, e.phase = .acquiring g out) :
    s.grantOther e 0 v = s := by
  obtain ⟨g, out, h⟩ := h
  simp [State.grantOther, h]

theorem State.grantOther_of_completes {s : State} {e : Entry} {n v : Nat} (h : e.phase.Completes n) :
    s.grantOther e n v = s.leave e.loader (.handedOver e.loader n) := by
  have hcompleted := Phase.completedBy_iff.mpr h
  unfold State.grantOther
  cases hphase : e.phase with
  | held o => simp [← hphase, hcompleted]
  | offering o => simp [← hphase, hcompleted]
  | acquiring g out => rw [hphase] at h; exact h.elim
  | releasing out => rw [hphase] at h; exact h.elim
  | suspended => rw [hphase] at h; exact h.elim

theorem State.grantOther_of_released {s : State} {e : Entry} {v : Nat} (h : ∃ out, e.phase = .releasing out) :
    s.grantOther e 0 v = s.leave e.loader (.released e.loader) := by
  obtain ⟨out, h⟩ := h
  simp [State.grantOther, h]

theorem State.grantOther_of_lost {s : State} {e : Entry} {n v : Nat}
    (hawaited : ¬ (n = 0 ∧ ∃ g out, e.phase = .acquiring g out)) (hcompletes : ¬ e.phase.Completes n)
    (hreleased : ¬ (n = 0 ∧ ∃ out, e.phase = .releasing out)) :
    s.grantOther e n v = s.leave e.loader (.lost e.loader n (lostReason s.station n v e.assist)) := by
  have hcompleted : e.phase.completedBy n = false := by
    rw [← Bool.not_eq_true, Phase.completedBy_iff]
    exact hcompletes
  unfold State.grantOther
  cases hphase : e.phase with
  | held o => simp [← hphase, hcompleted]
  | offering o => simp [← hphase, hcompleted]
  | acquiring g out => simp [show n ≠ 0 from fun hn => hawaited ⟨hn, g, out, hphase⟩]
  | releasing out => simp [show n ≠ 0 from fun hn => hreleased ⟨hn, out, hphase⟩]
  | suspended => rfl

theorem State.chairGrant_of_held {s : State} {f : RxFrame} {e : Entry} (he : s.entry? f.loader = some e) :
    s.chairGrant f = s.grantAtEngine e f := by
  simp [State.chairGrant, he]

/-- Settles O32: the frame reaches the entry of its loader; whom it names and the entry's phase decide. -/
theorem aGrantEndsOrRenewsAnEntry : Obligations.AGrantEndsOrRenewsAnEntry := by
  refine ⟨fun s f e h hkind he hroom hclass => ?_, fun s f h hkind he hitem hroom hclass => ?_⟩
  · have he' : s.received.entry? f.loader = some e := he
    obtain ⟨hloader, -⟩ := State.entry?_some he
    have hgrant := h.grant hkind
    rw [State.chairGrant_of_held he', State.grantAtEngine] at hgrant
    have hroom' : s.received.link.notices.length < 32 := Nat.lt_succ_of_lt hroom
    refine ⟨fun hn => ?_, fun hn => ?_⟩
    · have hmine : exec .receptionComplete s = .next (s.received.grantMine e (modeTaken (f.at 1)) f.epoch) := by
        rw [hgrant]
        exact congrArg _ (if_pos hn)
      have hacquired (m : Mode) := State.granted_spec h.active he' hroom' m f.epoch .grant
      refine ⟨fun m hm hphase => ?_, fun hsettled hepoch => ?_, fun out hout => ⟨fun hepoch => ?_, fun m hm hepoch => ?_⟩⟩
      · rw [modeTaken_of hm] at hmine
        refine ⟨_, hmine, ?_⟩
        rcases hphase with ⟨g, out, hphase⟩ | ⟨hsettled, hepoch⟩
        · rw [State.grantMine_of_acquiring hphase, hloader]
          exact hacquired m
        · rw [State.grantMine_of_settled hsettled, if_neg hepoch, hloader]
          exact hacquired m
      · rw [hmine, State.grantMine_of_settled hsettled, if_pos hepoch]
      · rw [hmine, State.grantMine_of_releasing hout, if_pos hepoch, hloader]
      · rw [modeTaken_of hm, State.grantMine_of_releasing hout, if_neg hepoch, hloader] at hmine
        have hreleased := State.releaseOver_spec
          (s := s.received.mapEntry f.loader fun x => { x with assist := false }) h.active hclass f.loader m f.epoch
        exact ⟨_, hmine, hreleased⟩
    · have hother : exec .receptionComplete s = .next (s.received.grantOther e (f.at 0).toNat (f.at 2).toNat) := by
        rw [hgrant]
        exact congrArg _ (if_neg hn)
      refine ⟨fun ⟨hzero, hphase⟩ => ?_, fun hcompletes => ?_, fun ⟨hzero, hphase⟩ => ?_,
        fun hawaited hcompletes hreleased => ?_⟩
      · rw [hother, hzero, State.grantOther_of_awaited hphase]
      · rw [State.grantOther_of_completes hcompletes, hloader] at hother
        exact ⟨_, hother, State.leave_spec f.loader (by exact hroom)⟩
      · rw [hzero, State.grantOther_of_released hphase, hloader] at hother
        exact ⟨_, hother, State.leave_spec f.loader (by exact hroom)⟩
      · rw [State.grantOther_of_lost hawaited hcompletes hreleased, hloader] at hother
        exact ⟨_, hother, State.leave_spec f.loader (by exact hroom)⟩
  · have hgrant := h.grant hkind
    unfold State.chairGrant at hgrant
    rw [show s.received.entry? f.loader = none from he] at hgrant
    have hboard : s.received.isBoarded f.loader = false := by
      simp [State.isBoarded, show s.received.item? f.loader = none from hitem]
    simp only [hboard] at hgrant
    refine ⟨fun hn => ?_, fun hn => ?_⟩
    · rw [if_neg (by simp), if_pos (by exact hn)] at hgrant
      exact ⟨_, hgrant, State.disown_spec h.active hclass hroom⟩
    · rw [if_neg (by simp), if_neg (by exact hn)] at hgrant
      exact hgrant

end Sys2Proof.Machine
end

/-!
PROOFS. What a REFUSE, a DECLINE and an ASSIST_CALL do at a chair to the entry of their loader (R72 to R76, R79, R81).
-/
section

namespace Sys2Proof.Machine

theorem State.chairAnswer_of_held {act : Entry → RxFrame → State → State} {s : State} {f : RxFrame} {e : Entry}
    (hdest : f.dest = s.station) (he : s.entry? f.loader = some e) : s.chairAnswer act f = act e f s := by
  simp [State.chairAnswer, hdest, he]

theorem State.chairAnswer_of_elsewhere {act : Entry → RxFrame → State → State} {s : State} {f : RxFrame}
    (hdest : f.dest ≠ s.station) : s.chairAnswer act f = s := by
  simp [State.chairAnswer, hdest]

/-! ### A REFUSE, by the phase of the entry (R72 to R75) -/

section refuse
variable {s : State} {f : RxFrame} {e : Entry}

theorem State.refuseAtEngine_clear (h : f.at 2 = 0x32) : s.refuseAtEngine e f = s.tell (refusedNotice e f) := by
  unfold State.refuseAtEngine
  exact if_pos h

theorem OutKind.code_ne_clear (k : OutKind) : k.frameKind.code ≠ (0x32 : Byte) := by
  cases k <;> decide

theorem State.refuseAtEngine_acquiring {g : Origin} {out : Outstanding} (hphase : e.phase = .acquiring g out)
    (hmatch : f.at 2 = out.kind.frameKind.code) :
    s.refuseAtEngine e f =
      if s.isLostGrant out f then s.acquired e.loader e.mode f.epoch .refuse false else s.endAcquisition e g f := by
  have hclear : ¬ f.at 2 = FrameKind.clear.code := fun h => OutKind.code_ne_clear out.kind (hmatch ▸ h)
  unfold State.refuseAtEngine
  rw [if_neg hclear, hphase]
  exact if_neg fun h => h hmatch

theorem State.refuseAtEngine_releasing {out : Outstanding} (hphase : e.phase = .releasing out) (hmatch : f.at 2 = 0x27) :
    s.refuseAtEngine e f = s.endRelease e f := by
  have hclear : ¬ f.at 2 = FrameKind.clear.code := by rw [hmatch]; decide
  unfold State.refuseAtEngine
  rw [if_neg hclear, hphase]
  exact if_neg fun h => h hmatch

theorem State.refuseAtEngine_offering {o : ChairOffer} (hphase : e.phase = .offering o) (hmatch : f.at 2 = 0x21) :
    s.refuseAtEngine e f = (s.endOffer e.loader o).tell (refusedNotice e f) := by
  have hclear : ¬ f.at 2 = FrameKind.clear.code := by rw [hmatch]; decide
  unfold State.refuseAtEngine
  rw [if_neg hclear, hphase]
  exact if_neg fun h => h hmatch

/-- R75: a REFUSE that is not of the kind of the entry's outstanding frame or offer is discarded. -/
theorem State.refuseAtEngine_unmatched (hclear : f.at 2 ≠ 0x32)
    (hacquiring : ∀ g out, e.phase = .acquiring g out → f.at 2 ≠ out.kind.frameKind.code)
    (hreleasing : ∀ out, e.phase = .releasing out → f.at 2 ≠ 0x27)
    (hoffering : ∀ o, e.phase = .offering o → f.at 2 ≠ 0x21) : s.refuseAtEngine e f = s := by
  unfold State.refuseAtEngine
  rw [if_neg (by exact hclear)]
  cases hphase : e.phase with
  | acquiring g out => exact if_pos (hacquiring g out hphase)
  | releasing out => exact if_pos (hreleasing out hphase)
  | offering o => exact if_pos (hoffering o hphase)
  | held o => rfl
  | suspended => rfl

theorem State.isLostGrant_iff {out : Outstanding} :
    s.isLostGrant out f = true ↔
      f.at 0 = 1 ∧ (f.at 1).toNat = s.station ∧ (out.kind = .claim ∨ out.kind = .seize) ∧ f.epoch ≠ out.epoch := by
  unfold State.isLostGrant
  rw [Bool.and_eq_true, Bool.and_eq_true, Bool.and_eq_true, and_assoc, and_assoc]
  exact and_congr decide_eq_true_iff (and_congr decide_eq_true_iff (and_congr decide_eq_true_iff decide_eq_true_iff))

/-- R73: a refused change of mode. -/
theorem State.endAcquisition_modeChange {back : Mode} :
    s.endAcquisition e (.modeChange back) f =
      if (f.at 0 = 1 ∨ f.at 0 = 5) ∧ (f.at 1).toNat ≠ 0 ∧ (f.at 1).toNat ≠ s.station then
        s.leave e.loader (.lost e.loader (f.at 1).toNat .taken)
      else
        ((s.mapEntry e.loader (Entry.heldAs back none)).tell (refusedNotice e f)).giveSupervise e.loader := by
  have hback (x : Entry) : Entry.enter (.held none) (x.takeMode back) = x.heldAs back none := by
    simp [Entry.heldAs, Entry.takeMode_eq]
  simp [State.endAcquisition, RefuseReason.code, hback]

/-- R73: a refused reclaim; the holder it names is the new one when it is another station (log entry 22). -/
theorem State.endAcquisition_reclaim :
    s.endAcquisition e .reclaim f =
      s.leave e.loader
        (if (f.at 1).toNat ≠ 0 ∧ (f.at 1).toNat ≠ s.station then .lost e.loader (f.at 1).toNat .taken
         else .lost e.loader 0 .lapsed) := by
  unfold State.endAcquisition State.otherHolder
  by_cases hzero : (f.at 1).toNat = 0
  · simp [hzero]
  · by_cases hown : (f.at 1).toNat = s.station <;> simp [hzero, hown]

/-- R74: a refused release, by the reason and the holder that the REFUSE names. -/
theorem State.endRelease_eq :
    s.endRelease e f =
      if f.at 0 = 6 then
        if (f.at 1).toNat = 0 then s.leave e.loader (.released e.loader)
        else s.leave e.loader
          (.lost e.loader
            (if (f.at 1).toNat ≠ 0 ∧ (f.at 1).toNat ≠ s.station then (f.at 1).toNat else 0) .taken)
      else if f.at 0 = 2 ∧ (f.at 1).toNat = s.station then s.sendRelease e.loader f.epoch
      else if f.at 0 = 2 ∧ (f.at 1).toNat ≠ 0 then s.leave e.loader (.lost e.loader (f.at 1).toNat .taken)
      else s.leave e.loader (refusedNotice e f) := by
  unfold State.endRelease State.otherHolder
  by_cases hzero : (f.at 1).toNat = 0
  · simp [hzero, RefuseReason.code]
  · by_cases hown : (f.at 1).toNat = s.station <;> simp [hzero, hown, RefuseReason.code]

end refuse

/-! ### A DECLINE and an ASSIST_CALL (R76, R79) -/

theorem State.declineAtEngine_matched {s : State} {f : RxFrame} {e : Entry} {o : ChairOffer}
    (hphase : e.phase = .offering o) (htarget : o.target = .station f.source) :
    s.declineAtEngine e f = ((s.sendWithdraw e).endOffer e.loader o).tell (.declined e.loader o.target (f.at 0)) := by
  simp [State.declineAtEngine, hphase, htarget]

theorem State.declineAtEngine_unmatched {s : State} {f : RxFrame} {e : Entry}
    (h : ∀ o, e.phase = .offering o → o.target ≠ .station f.source) : s.declineAtEngine e f = s := by
  unfold State.declineAtEngine
  cases hphase : e.phase with
  | offering o => exact if_neg (h o hphase)
  | acquiring g out => rfl
  | releasing out => rfl
  | held o => rfl
  | suspended => rfl

theorem State.chairAssist_of_held {s : State} {f : RxFrame} {e : Entry} (he : s.entry? f.loader = some e) :
    s.chairAssist f = s.assistAtEngine e f := by
  simp [State.chairAssist, he]

/-- A notice told of a state, beside which nothing changes. -/
theorem State.tell_spec {s : State} {n : Notice} (hroom : s.link.notices.length < 32) (hstate : n.isState = false := by rfl) :
    ∃ k, s.tell n = { s with link := k } ∧ s.link.Posts [n] n.holdFlag k :=
  ⟨_, State.tell_frame n s, State.tell_posts hstate hroom⟩

theorem State.sendWithdraw_spec {s : State} (hactive : s.active = true) (hclass : s.liu.classA.length < 8) (e : Entry) :
    ∃ q, s.sendWithdraw e = { s with liu := q } ∧
      Liu.Joined (TxFrame.make .withdraw e.loader e.loader e.epoch []) s.liu q := by
  obtain ⟨hframe, hjoined, -⟩ :=
    State.give_spec (TxFrame.make .withdraw e.loader e.loader e.epoch []) s hactive (by exact hclass)
  exact ⟨_, hframe, hjoined⟩

/-- Settles O33: each frame reaches the entry of its loader, and its phase decides. -/
theorem anAnswerReachesItsEntry : Obligations.AnAnswerReachesItsEntry := by
  intro s f e h he hroom hclass holder other refused left
  have he' : s.received.entry? f.loader = some e := he
  obtain ⟨hloader, -⟩ := State.entry?_some he
  have hroom' : s.received.link.notices.length < 32 := Nat.lt_succ_of_lt hroom
  have hrefused : refusedNotice e f = refused := by simp [refusedNotice, refused, hloader]
  have leaves {n : Notice} {t : State} (hexec : exec .receptionComplete s = .next t)
      (ht : t = s.received.leave f.loader n) (hstate : n.isState = false := by rfl)
      (hkind : ∀ l m c, n ≠ .suspended l m c := by nofun) : left n :=
    ⟨_, hexec, ht ▸ State.leave_spec (s := s.received) f.loader hroom hstate hkind⟩
  have hrefuse (hkind : f.kind = .refuse) (hdest : f.dest = s.station) :
      exec .receptionComplete s = .next (s.received.refuseAtEngine e f) := by
    rw [h.refuse hkind, State.chairAnswer_of_held (by exact hdest) he']
  refine ⟨fun hkind hdest hclear => ?_, fun g out hkind hdest hphase hmatch => ?_, fun out hkind hdest hphase hmatch => ?_,
    fun o hkind hdest hphase hmatch => ?_, ?_, fun o hkind hdest hphase htarget => ?_, ?_, fun hkind => ?_⟩
  · rw [hrefuse hkind hdest, State.refuseAtEngine_clear hclear, hrefused]
    obtain ⟨k, htold, hposts⟩ := State.tell_spec (n := refused) hroom'
    exact ⟨k, congrArg _ htold, hposts⟩
  · intro lostGrant
    have hexec := hrefuse hkind hdest
    rw [State.refuseAtEngine_acquiring hphase hmatch, hloader] at hexec
    have hended (hlost : ¬ lostGrant) : exec .receptionComplete s = .next (s.received.endAcquisition e g f) := by
      rw [hexec]
      exact congrArg _ (if_neg fun hl => hlost (State.isLostGrant_iff.mp hl))
    refine ⟨fun hlost => ?_, fun hlost hg => ?_, fun back hlost hg => ⟨fun htaken => ?_, fun htaken => ?_⟩,
      fun hlost hg => ?_⟩
    · have hlost' : s.received.isLostGrant out f = true := State.isLostGrant_iff.mpr hlost
      rw [if_pos hlost'] at hexec
      exact ⟨_, hexec, State.acquired_spec h.active he' (.refl _) hroom' e.mode f.epoch .refuse⟩
    · have := hended hlost
      subst hg
      exact leaves this (by rw [← hrefused, ← hloader]; rfl)
    · have := hended hlost
      subst hg
      rw [State.endAcquisition_modeChange, hloader] at this
      exact leaves this (if_pos htaken)
    · have := hended hlost
      subst hg
      rw [State.endAcquisition_modeChange, hloader, hrefused] at this
      refine ⟨_, this, ?_⟩
      rw [if_neg (by exact htaken)]
      exact State.heldAs_told (s := s.received) (n := refused) h.active he' (.refl _) hroom' back none
    · have := hended hlost
      subst hg
      rw [State.endAcquisition_reclaim, hloader] at this
      refine leaves this rfl ?_ ?_
      · split <;> rfl
      · split <;> nofun
  · have hexec := hrefuse hkind hdest
    rw [State.refuseAtEngine_releasing hphase hmatch, State.endRelease_eq, hloader, hrefused] at hexec
    refine ⟨fun hreason hzero => ?_, fun hreason hnone => ?_, fun hreason hown => ?_, fun hreason hother => ?_,
      fun hreason hstale => ?_⟩
    · exact leaves hexec (by rw [if_pos hreason, if_pos (by exact hzero)])
    · exact leaves hexec (by rw [if_pos hreason, if_neg (by exact hnone)]; rfl)
    · rw [if_neg (by rw [hreason]; decide), if_pos ⟨hreason, by exact hown⟩] at hexec
      exact ⟨_, hexec, State.sendRelease_spec h.active (by exact hclass) f.loader f.epoch⟩
    · obtain ⟨hnone, hforeign⟩ := hother
      exact leaves hexec (by
        rw [if_neg (by rw [hreason]; decide), if_neg (fun h => hforeign h.2), if_pos ⟨hreason, by exact hnone⟩])
    · refine leaves hexec ?_
      rw [if_neg hreason, if_neg (fun h => hstale ⟨h.1, .inl h.2⟩), if_neg]
      rintro ⟨hcode, hnone⟩
      by_cases hown : holder = s.station
      · exact hstale ⟨hcode, .inl hown⟩
      · exact hstale ⟨hcode, .inr ⟨hnone, hown⟩⟩
  · rw [hrefuse hkind hdest, State.refuseAtEngine_offering hphase hmatch, hloader, hrefused]
    obtain ⟨k, htold, hposts⟩ := State.tell_spec (s := s.received.endOffer f.loader o) (n := refused) hroom'
    exact ⟨k, congrArg _ htold, hposts⟩
  · intro hkind helse
    rcases helse with hdest | ⟨hclear, hacquiring, hreleasing, hoffering⟩
    · rw [h.refuse hkind, State.chairAnswer_of_elsewhere (by exact hdest)]
    · by_cases hdest : f.dest = s.station
      · rw [hrefuse hkind hdest, State.refuseAtEngine_unmatched hclear hacquiring hreleasing hoffering]
      · rw [h.refuse hkind, State.chairAnswer_of_elsewhere (by exact hdest)]
  · rw [h.decline hkind, State.chairAnswer_of_held (by exact hdest) he', State.declineAtEngine_matched hphase htarget]
    obtain ⟨q, hsent, hjoined⟩ := State.sendWithdraw_spec h.active (by exact hclass) e
    rw [hsent, hloader]
    rw [hloader] at hjoined
    obtain ⟨k, htold, hposts⟩ := State.tell_spec (s := ({ s.received with liu := q }).endOffer f.loader o)
      (n := .declined f.loader o.target (f.at 0)) hroom'
    exact ⟨k, q, congrArg _ htold, hjoined, hposts⟩
  · intro hkind helse
    by_cases hdest : f.dest = s.station
    · rw [h.decline hkind, State.chairAnswer_of_held (by exact hdest) he']
      rcases helse with helse | helse
      · exact absurd hdest helse
      · rw [State.declineAtEngine_unmatched helse]
    · rw [h.decline hkind, State.chairAnswer_of_elsewhere (by exact hdest)]
  · rw [h.assistCall hkind, State.chairAssist_of_held he', State.assistAtEngine, hloader]
    cases e.assist with
    | true => exact ⟨_, rfl, .refl _⟩
    | false =>
      obtain ⟨k, htold, hposts⟩ := State.tell_spec
        (s := s.received.mapEntry f.loader fun x => { x with assist := true })
        (n := .assist f.loader (f.halfAt 0)) hroom'
      exact ⟨k, congrArg _ htold, hposts⟩

end Sys2Proof.Machine
end

/-!
PROOFS. What a STATUS does at a chair to the entry of its loader (R77, R78, R80, R81, R115).
-/
section

namespace Sys2Proof.Machine

/-! ### A STATUS heard (R77, R115) -/

theorem State.statusHeard_spec {s : State} {f : RxFrame} {e : Entry} (he : s.entry? f.loader = some e)
    (hroom : s.link.notices.length < 32) :
    ∃ k, (s.received.statusAtMonitor e f).storeReport f.loader f = { s.statusHeard f with link := k } ∧
      s.link.Posts e.presentNotices 0 k ∧ k.notices.length ≤ s.link.notices.length + 1 := by
  obtain ⟨hloader, -⟩ := State.entry?_some he
  have hheard (k : Link) (g : Entry → Entry) (hg : ∀ x, (g x).loader = x.loader) :
      ({ s.received.mapEntry f.loader g with link := k }).storeReport f.loader f =
        { s.received.mapEntry f.loader ((fun x =>
            { x with report := some (reportOf f), assist := (f.at 8).getLsbD 4 }) ∘ g) with link := k } := by
    rw [← State.mapEntry_mapEntry s.received hg]
    rfl
  unfold State.statusAtMonitor Entry.presentNotices
  rw [hloader]
  cases e.absent with
  | false =>
    refine ⟨s.link, ?_, .refl _, Nat.le_succ _⟩
    exact hheard s.link _ fun _ => rfl
  | true =>
    exact ⟨_, hheard _ _ fun _ => rfl,
      State.post_posts (n := .present f.loader) (s := s.received.mapEntry f.loader _) rfl hroom,
      State.post_length_le (.present f.loader) (s.received.mapEntry f.loader _)⟩

/-- R77: the entry of the loader that a STATUS is about, after it has been heard. -/
theorem State.statusHeard_entry? {s : State} {f : RxFrame} {e : Entry} (he : s.entry? f.loader = some e) :
    ∃ e', (s.statusHeard f).entry? f.loader = some e' ∧ e'.loader = e.loader ∧ e'.epoch = e.epoch ∧
      ∀ m, e'.continueIn m = e.continueIn m :=
  ⟨_, State.mapEntry_entry? (s := s.received) he fun _ => rfl, rfl, rfl, fun _ => rfl⟩

theorem State.HeldIn.of_same {s t : State} {e e' : Entry} {m : Mode} {epoch : Option Epoch} (h : s.HeldIn e' m epoch t)
    (hloader : e'.loader = e.loader) (hepoch : e'.epoch = e.epoch) (hcontinue : e'.continueIn m = e.continueIn m) :
    s.HeldIn e m epoch t := by
  unfold State.HeldIn at *
  rwa [← hloader, ← hepoch, ← hcontinue]

theorem State.chairStatus_of_held {s : State} {f : RxFrame} {e : Entry} (he : s.entry? f.loader = some e) :
    s.chairStatus f = (s.statusAtMonitor e f).statusAtEngine e f := by
  simp [State.chairStatus, he]

/-- R77, R78: a STATUS is heard, and then compared with its entry or taken as the STATUS of an orphan. -/
theorem State.TakesAsChair.heard {s : State} {f : RxFrame} {e : Entry} (h : s.TakesAsChair f) (hkind : f.kind = .status)
    (he : s.entry? f.loader = some e) (hroom : s.link.notices.length < 32) :
    ∃ k, s.link.Posts e.presentNotices 0 k ∧ k.notices.length ≤ s.link.notices.length + 1 ∧
      (¬ (f.at 0 = 4 ∧ (f.at 2).toNat = s.station) → exec .receptionComplete s =
        .next ({ s.statusHeard f with link := k }.statusCompared e (f.at 0) (modeTaken (f.at 1)) (f.at 2).toNat
          f.epoch)) ∧
      (f.at 0 = 4 → (f.at 2).toNat = s.station → exec .receptionComplete s =
        .next ({ s.statusHeard f with link := k }.statusOrphan e (modeTaken (f.at 1)) f.epoch)) := by
  obtain ⟨hloader, -⟩ := State.entry?_some he
  obtain ⟨k, hheard, hposts, hfull⟩ := State.statusHeard_spec he hroom
  have hexec := h.status hkind
  have hstation : (s.received.statusAtMonitor e f).station = s.station := by
    unfold State.statusAtMonitor
    dsimp only
    split <;> rfl
  rw [State.chairStatus_of_held (s := s.received) he, State.statusAtEngine, hloader, hheard, hstation] at hexec
  refine ⟨k, hposts, hfull, fun helse => ?_, fun horphan hown => ?_⟩
  · rw [hexec]
    exact congrArg _ (if_neg helse)
  · rw [hexec]
    exact congrArg _ (if_pos ⟨horphan, hown⟩)

/-! ### A STATUS compared with its entry (R78) -/

section compared
variable {s : State} {e : Entry} {b : Byte} {m : Mode} {holder : Nat} {epoch : Epoch}

theorem State.statusCompared_acquiring {g : Origin} {out : Outstanding} (hphase : e.phase = .acquiring g out) :
    s.statusCompared e b m holder epoch =
      if holder = s.station ∧ epoch ≠ out.epoch then s.acquired e.loader m epoch .status false else s := by
  simp only [State.statusCompared, hphase]

theorem State.statusCompared_releasing {out : Outstanding} (hphase : e.phase = .releasing out) :
    s.statusCompared e b m holder epoch =
      if b = 0 then s.leave e.loader (.released e.loader)
      else if holder = s.station then (if epoch = out.epoch then s else s.releaseOver e.loader m epoch)
      else s.leave e.loader (.lost e.loader holder .taken) := by
  simp only [State.statusCompared, hphase]
  rfl

theorem State.statusCompared_settled
    (h : (∃ o, e.phase = .held o) ∨ (∃ o, e.phase = .offering o) ∨ e.phase = .suspended) :
    s.statusCompared e b m holder epoch =
      if holder = s.station ∧ epoch = e.epoch then s
      else s.leave e.loader (removalNotice e s.station b holder epoch) := by
  rcases h with ⟨o, h⟩ | ⟨o, h⟩ | h <;> simp only [State.statusCompared, h]

end compared

/-- Settles O35: the STATUS is heard; its state, holder and epoch against the entry's phase decide the rest. -/
theorem aStatusIsComparedWithItsEntry : Obligations.AStatusIsComparedWithItsEntry := by
  refine ⟨?_, fun s f h hkind he hroom hclass => ?_⟩
  · intro s f e h hkind he holder helse hroom hclass u kept left
    obtain ⟨hloader, -⟩ := State.entry?_some he
    obtain ⟨k, hposts, hfull, hexec, -⟩ := h.heard hkind he (by omega)
    replace hexec := hexec helse
    have hroom' : k.notices.length < 31 := by omega
    have leaves {n : Notice} {t : State} (hexec : exec .receptionComplete s = .next t)
        (ht : t = ({ u with link := k }).leave f.loader n) (hstate : n.isState = false := by rfl)
        (hkind : ∀ l m c, n ≠ .suspended l m c := by nofun) : left n :=
      ⟨_, hexec, ht ▸ State.leave_after (s := u) hposts hroom' f.loader hstate hkind⟩
    have keeps {t : State} (hexec : exec .receptionComplete s = .next t) (ht : t = { u with link := k }) : kept :=
      ⟨k, ht ▸ hexec, hposts⟩
    refine ⟨fun g out hphase => ?_, fun out hphase => ?_, fun hsettled => ?_⟩
    · rw [State.statusCompared_acquiring hphase, hloader] at hexec
      refine ⟨fun hother => ?_, fun m hown hepoch hm => ?_⟩
      · refine keeps hexec (if_neg fun ⟨hown, hepoch⟩ => ?_)
        rcases hother with hother | hother
        · exact hother hown
        · exact hepoch hother
      · obtain ⟨e', he', hsame⟩ := State.statusHeard_entry? he
        rw [modeTaken_of hm, if_pos ⟨by exact hown, hepoch⟩] at hexec
        obtain ⟨hheld, hnotices⟩ := State.acquired_spec (s := u) h.active he' hposts (by omega) m f.epoch .status
        exact ⟨_, hexec, hheld.of_same hsame.1 hsame.2.1 (hsame.2.2 m), hnotices⟩
    · rw [State.statusCompared_releasing hphase, hloader] at hexec
      refine ⟨fun hfree => ?_, fun hfree hother => ?_, fun hfree hown hepoch => ?_, fun m hfree hown hepoch hm => ?_⟩
      · exact leaves hexec (if_pos hfree)
      · exact leaves hexec (by rw [if_neg hfree, if_neg (by exact hother)])
      · exact keeps hexec (by rw [if_neg hfree, if_pos (by exact hown), if_pos hepoch])
      · rw [modeTaken_of hm, if_neg hfree, if_pos (by exact hown), if_neg hepoch] at hexec
        obtain ⟨hreleased, hlink⟩ :=
          State.releaseOver_spec (s := { u with link := k }) h.active (by exact hclass) f.loader m f.epoch
        exact ⟨_, hexec, hreleased, by rw [hlink]; exact hposts⟩
    · rw [State.statusCompared_settled hsettled, hloader] at hexec
      refine ⟨fun hown hepoch => keeps hexec (if_pos ⟨by exact hown, hepoch⟩), fun hdiffers => ?_⟩
      rw [if_neg (by exact hdiffers)] at hexec
      unfold removalNotice at hexec
      rw [hloader] at hexec
      refine ⟨fun hfree => ?_, fun hfree hown => ?_, fun hfree hother hcompletes => ?_, fun hfree hother hcompletes => ?_⟩
      · exact leaves hexec (by rw [if_pos (by exact hfree)])
      · exact leaves hexec (by rw [if_neg (by exact hfree), if_pos (by exact hown)])
      · exact leaves hexec (by
          rw [if_neg (by exact hfree), if_neg (by exact hother), if_pos (Phase.completedBy_iff.mpr hcompletes)])
      · exact leaves hexec (by
          rw [if_neg (by exact hfree), if_neg (by exact hother),
            if_neg fun h => hcompletes (Phase.completedBy_iff.mp h)])
  · have hexec := h.status hkind
    unfold State.chairStatus at hexec
    rw [show s.received.entry? f.loader = none from he] at hexec
    refine ⟨fun hown => ?_, fun hother => ?_⟩
    · exact ⟨_, hexec.trans (congrArg _ (if_pos (by exact hown))), State.disown_spec h.active hclass hroom⟩
    · exact hexec.trans (congrArg _ (if_neg (by exact hother)))

/-! ### A STATUS that shows ORPHAN with this chair as holder (R77, R97) -/

/-- R77, R97: the conditions of a reclaim at once. -/
theorem State.reclaims_iff {s : State} {m : Mode} :
    s.reclaims m = true ↔
      m = .supervise ∨
        (s.discrete.deadman.active = true ∧ s.discrete.seat.active = true ∧
          ∃ a, s.relay.axes = some a ∧ a.steer.natAbs ≤ 5 ∧ a.travel.natAbs ≤ 5 ∧ a.boom.natAbs ≤ 5 ∧
            a.bucket.natAbs ≤ 5 ∧ s.now - a.arrived ≤ ms (3 * s.settings.p)) := by
  cases m with
  | supervise => simp [State.reclaims]
  | drive =>
    cases haxes : s.relay.axes with
    | none => simp [State.reclaims, State.axesNeutral, State.axesStale, haxes]
    | some a =>
      have hfresh : s.axesStale = false ↔ s.now - a.arrived ≤ ms (3 * s.settings.p) := by
        unfold State.axesStale
        rw [haxes]
        exact decide_eq_false_iff_not.trans not_lt
      simp [State.reclaims, State.axesNeutral, haxes, Axes.neutral, and_assoc, hfresh, -Nat.sub_le_iff_le_add]

/-- R77: the entry of an orphaned loader enters SUSPENDED, and by then claims again when it reclaims. -/
theorem State.suspend_eq {s : State} {loader : Nat} {m : Mode} {epoch : Epoch} :
    s.suspend loader m epoch =
      (if s.reclaims m then
        (s.mapEntry loader fun e => Entry.enter .suspended { e.takeMode m with epoch }).claimAgain loader .reclaim m epoch
      else s.mapEntry loader fun e => Entry.enter .suspended { e.takeMode m with epoch }).tell
        (.suspended loader m (s.reclaims m)) := by
  rfl

theorem State.suspended_eq (s : State) (loader : Nat) (m : Mode) (epoch : Epoch) :
    (s.mapEntry loader fun e => Entry.enter .suspended { e.takeMode m with epoch }) =
      s.mapEntry loader fun x =>
        { x with mode := m, continueOk := x.continueIn m, phase := .suspended, epoch, supervise := none } :=
  State.mapEntry_congr s fun x => by rw [Entry.enter_suspended, Entry.takeMode_eq]

/-- R56, R57, R77: an entry that has entered SUSPENDED claims again: of its own it takes the epoch, and the rest is the
claim's. -/
theorem State.suspendedClaim_spec {s : State} (hactive : s.active = true) (hclass : s.liu.classA.length < 8)
    (loader : Nat) (m : Mode) (epoch : Epoch) :
    let t := (s.mapEntry loader fun e => Entry.enter .suspended { e.takeMode m with epoch }).claimAgain loader .reclaim m
      epoch
    State.ClaimedAgain loader .reclaim m epoch (s.mapEntry loader fun x => { x with epoch }) t ∧ t.link = s.link := by
  intro t
  obtain ⟨⟨hframe, hjoined⟩, hlink⟩ := State.claimAgain_spec
    (s := s.mapEntry loader fun e => Entry.enter .suspended { e.takeMode m with epoch }) hactive hclass loader .reclaim m
    epoch
  refine ⟨⟨(show t = _ from hframe).trans ?_, hjoined⟩, hlink⟩
  simp only [State.mapEntry, List.map_map]
  congr 3
  funext x
  by_cases hx : x.loader = loader
  · simp only [Function.comp, hx, if_true, Entry.enter_suspended, Entry.takeMode_eq]
    cases m <;> rfl
  · simp [hx]

theorem Link.Posts.before {ns ms : List Notice} {b : Half} {k₁ k₂ k₃ : Link} (h : k₁.Posts ns 0 k₂)
    (h' : k₂.Posts ms b k₃) : k₁.Posts (ns ++ ms) b k₃ := by
  simpa using h.trans h'

theorem State.ClaimedAgain.withLink {s t : State} {loader : Nat} {g : Origin} {m : Mode} {epoch : Epoch}
    (h : s.ClaimedAgain loader g m epoch t) (k : Link) : s.ClaimedAgain loader g m epoch { t with link := k } := by
  obtain ⟨hframe, hjoined⟩ := h
  exact ⟨congrArg (fun u : State => { u with link := k }) hframe, hjoined⟩

section orphan
variable {s : State} {e : Entry} {m : Mode} {epoch : Epoch}

theorem State.statusOrphan_owned
    (h : (∃ o, e.phase = .held o) ∨ (∃ o, e.phase = .offering o) ∨ ∃ b out, e.phase = .acquiring (.modeChange b) out) :
    s.statusOrphan e m epoch = s.suspend e.loader m epoch := by
  rcases h with ⟨o, h⟩ | ⟨o, h⟩ | ⟨b, out, h⟩ <;> simp only [State.statusOrphan, h]

theorem State.statusOrphan_acquiring {out : Outstanding}
    (h : e.phase = .acquiring .new out ∨ e.phase = .acquiring .reclaim out) : s.statusOrphan e m epoch = s := by
  rcases h with h | h <;> simp only [State.statusOrphan, h]

theorem State.statusOrphan_suspended (h : e.phase = .suspended) :
    s.statusOrphan e m epoch = s.mapEntry e.loader fun x => { x with epoch } := by
  simp only [State.statusOrphan, h]

theorem State.statusOrphan_releasing {out : Outstanding} (h : e.phase = .releasing out) :
    s.statusOrphan e m epoch = if epoch = out.epoch then s else s.releaseOver e.loader m epoch := by
  simp only [State.statusOrphan, h]

end orphan

/-- Settles O34: the STATUS is heard; the entry's phase decides whether it is suspended, renewed or left. -/
theorem aStatusOfAnOrphanSuspendsItsEntry : Obligations.AStatusOfAnOrphanSuspendsItsEntry := by
  intro s f e m h hkind he horphan hown hm hroom hclass u owned reclaims
  obtain ⟨hloader, -⟩ := State.entry?_some he
  obtain ⟨k, hposts, hfull, -, hexec⟩ := h.heard hkind he (by omega)
  replace hexec := hexec horphan hown
  rw [modeTaken_of hm] at hexec
  have hroom' : k.notices.length < 32 := by omega
  refine ⟨fun howned hreclaims => ?_, fun howned hreclaims => ?_, fun hphase => ?_, fun ⟨out, hphase⟩ => ?_,
    fun out hphase hepoch => ?_⟩
  · have hyes : ({ u with link := k }).reclaims m = true := State.reclaims_iff.mpr hreclaims
    rw [State.statusOrphan_owned howned, hloader, State.suspend_eq, hyes, if_pos rfl] at hexec
    obtain ⟨hclaimed, hlink⟩ :=
      State.suspendedClaim_spec (s := { u with link := k }) h.active (by exact hclass) f.loader m f.epoch
    rw [State.tell_frame] at hexec
    refine ⟨_, hexec, hclaimed.withLink _, ?_⟩
    have htold := State.tell_posts (n := .suspended f.loader m true) rfl (by rw [hlink]; exact hroom')
    rw [hlink] at htold
    exact hposts.before htold
  · have hno : ({ u with link := k }).reclaims m = false := by
      rw [← Bool.not_eq_true, State.reclaims_iff]
      exact hreclaims
    rw [State.statusOrphan_owned howned, hloader, State.suspend_eq, hno, if_neg (by simp), State.suspended_eq] at hexec
    obtain ⟨k', htold, htoldPosts⟩ := State.tell_spec
      (s := ({ u with link := k }).mapEntry f.loader fun x =>
        { x with mode := m, continueOk := x.continueIn m, phase := .suspended, epoch := f.epoch, supervise := none })
      (n := .suspended f.loader m false) hroom'
    rw [htold] at hexec
    exact ⟨k', hexec, hposts.before htoldPosts⟩
  · rw [State.statusOrphan_suspended hphase, hloader] at hexec
    exact ⟨k, hexec, hposts⟩
  · refine ⟨k, hexec.trans (congrArg _ ?_), hposts⟩
    rcases hphase with hphase | hphase | ⟨hphase, hepoch⟩
    · exact State.statusOrphan_acquiring (.inl hphase)
    · exact State.statusOrphan_acquiring (.inr hphase)
    · rw [State.statusOrphan_releasing hphase, if_pos hepoch]
  · rw [State.statusOrphan_releasing hphase, if_neg hepoch, hloader] at hexec
    obtain ⟨hreleased, hlink⟩ :=
      State.releaseOver_spec (s := { u with link := k }) h.active (by exact hclass) f.loader m f.epoch
    exact ⟨_, hexec, hreleased, by rw [hlink]; exact hposts⟩

end Sys2Proof.Machine
end

/-!
PROOFS. The timers of a Hold Table entry, the supervise deadline and the drive interval, and PAUSE and RESUME (R54, R57,
R58, R68, R76, R116, R139 to R142).
-/
section

namespace Sys2Proof.Machine

/-! ### The timers of an entry (R58, R76, R116) -/

section timers
variable {s : State} {loader : Byte} {e : Entry}

theorem State.exec_answerDeadline {out : Outstanding} (hchair : s.activeAs .chair = true)
    (he : s.entry? loader.toNat = some e) (hout : e.phase.out? = some out) :
    exec (.answerDeadlineExpiry loader) s = .next (s.answerDeadline e out) := by
  show execAnswerDeadlineExpiry loader s = _
  simp [execAnswerDeadlineExpiry, hchair, he, hout]

theorem State.exec_offerDeadline {o : ChairOffer} {due : Nat} (hchair : s.activeAs .chair = true)
    (he : s.entry? loader.toNat = some e) (hphase : e.phase = .offering o) (hdue : o.deadline = some due) :
    exec (.offerDeadlineExpiry loader) s = .next (s.offerDeadline e o due) := by
  show execOfferDeadlineExpiry loader s = _
  simp [execOfferDeadlineExpiry, hchair, he, hphase, hdue]

theorem State.exec_absenceDeadline {due : Nat} (hchair : s.activeAs .chair = true)
    (he : s.entry? loader.toNat = some e) (hdue : e.absence = some due) :
    exec (.absenceDeadlineExpiry loader) s = .next (s.absenceDeadline e due) := by
  show execAbsenceDeadlineExpiry loader s = _
  simp [execAbsenceDeadlineExpiry, hchair, he, hdue]

theorem State.exec_superviseDeadline {due : Nat} (hchair : s.activeAs .chair = true)
    (he : s.entry? loader.toNat = some e) (hdue : e.supervise = some due) :
    exec (.superviseDeadlineExpiry loader) s = .next ((s.reach due).giveSupervise loader.toNat) := by
  show execSuperviseDeadlineExpiry loader s = _
  simp [execSuperviseDeadlineExpiry, hchair, he, hdue]

theorem State.exec_driveInterval {due : Nat} (hchair : s.activeAs .chair = true) (hdue : s.relay.driveTimer = some due) :
    exec .driveIntervalExpiry s = .next (s.driveInterval due) := by
  show execDriveIntervalExpiry s = _
  simp [execDriveIntervalExpiry, hchair, hdue]

end timers

/-- R13 to R15, R21: a frame given to the active LIU with room changes the LIU alone, where it joins the queue. -/
theorem State.give_room {s : State} {f : TxFrame} (hactive : s.active = true) (hroom : s.liu.HasRoom f) :
    ∃ q, s.give f = { s with liu := q } ∧ Liu.Joined f s.liu q := by
  obtain ⟨hframe, hjoined, -⟩ := State.give_spec f s hactive hroom
  exact ⟨_, hframe, hjoined⟩

/-- R58: another copy of an outstanding frame is the same frame. -/
theorem Outstanding.frame_renewed (loader attempts deadline : Nat) (o : Outstanding) :
    { o with attempts, deadline : Outstanding }.frame loader = o.frame loader := rfl

/-- Settles O47: each deadline that expires is one of the entry's, and acts on it. -/
theorem theTimersOfAnEntryExpire : Obligations.TheTimersOfAnEntryExpire := by
  intro s loader e hchair he
  have hactive : s.active = true := (State.activeAs_iff.mp hchair).1
  obtain ⟨hloader, -⟩ := State.entry?_some he
  refine ⟨fun out hphase => ?_, fun o due hphase hdue hroom => ?_, fun due hdue hroom => ?_⟩
  · have hout : e.phase.out? = some out := by rcases hphase with h | ⟨g, h⟩ <;> rw [h] <;> rfl
    rw [State.exec_answerDeadline hchair he hout, State.answerDeadline, hloader]
    refine ⟨fun hattempts hclass => ?_, fun hattempts hroom => ?_⟩
    · have hroomA : (s.reach out.deadline).liu.HasRoom (out.frame loader.toNat) := by
        unfold Liu.HasRoom Outstanding.frame TxFrame.make
        cases out.kind <;> exact hclass
      obtain ⟨q, hgive, hjoined⟩ := State.give_room (s := s.reach out.deadline) hactive hroomA
      refine ⟨q, ?_, hjoined⟩
      rw [show Config.maxAttempts = 4 from rfl, if_pos hattempts]
      simp only [Outstanding.frame_renewed, hgive, State.mapEntry]
      unfold State.reach State.periods
      congr 4
      funext y
      cases y.phase <;> rfl
    · rw [show Config.maxAttempts = 4 from rfl, if_neg (by omega)]
      exact ⟨_, rfl, State.leave_spec (s := s.reach out.deadline) loader.toNat hroom⟩
  · rw [State.exec_offerDeadline hchair he hphase hdue, State.offerDeadline, hloader]
    obtain ⟨k, htold, hposts⟩ := State.tell_spec (s := (s.reach due).endOffer loader.toNat o)
      (n := .offerExpired loader.toNat o.target) hroom
    exact ⟨k, congrArg _ htold, hposts⟩
  · rw [State.exec_absenceDeadline hchair he hdue, State.absenceDeadline, hloader]
    exact ⟨_, rfl, State.post_posts (n := .absent loader.toNat ((max s.now due - e.lastStatusAt.getD e.addedAt) / 1000))
      (s := (s.reach due).mapEntry loader.toNat fun e => { e with absent := true, absence := none }) rfl hroom⟩

/-! ### PAUSE and RESUME (R68, R142) -/

/-- R174: a request that is carried out with its notices and flags, and answered. -/
theorem State.Admits.posting {kind : Byte} {role : RequestRole} {s t : State} (h : s.Admits kind role) (tag : Byte)
    {act : State → State × Answer} {a : Answer} {ns : List Notice} {raised : Half} (hact : act s.taken = (t, a))
    (hposts : s.taken.link.Posts ns raised t.link) :
    ∃ k, s.request kind tag true role act = { t with link := k } ∧
      s.link.Replies kind tag a.code a.contents ns raised k := by
  obtain ⟨hbeside, hslot⟩ := hposts
  obtain ⟨k, hrequest, hanswers, hafter, -, -⟩ := h.carried tag act (by rw [hact]; exact hslot)
  rw [hact] at hrequest hanswers hafter
  exact ⟨k, hrequest, hanswers, by simpa using (s.taken_beside.trans hbeside).trans hafter⟩

theorem State.badLoader_eq_false {loader : Byte} {s : State} (hstation : isStation loader = true)
    (hother : loader.toNat ≠ s.station) : s.badLoader loader = false := by
  simp [State.badLoader, hstation, hother]

theorem State.onEntry_of_held {loader : Byte} {s : State} {e : Entry} {act : Entry → State → State × Answer}
    (hbad : s.badLoader loader = false) (he : s.entry? loader.toNat = some e) : s.onEntry loader act = act e s := by
  simp [State.onEntry, hbad, he]

theorem Entry.supervised_iff {e : Entry} :
    e.supervised = true ↔ e.mode = .supervise ∧ ((∃ o, e.phase = .held o) ∨ ∃ o, e.phase = .offering o) := by
  cases hphase : e.phase <;> simp [Entry.supervised, hphase]

/-- Settles O46: the entry's mode decides the answer, and its phase whether a frame goes out. -/
theorem pauseAndResumeSetTheContinueFlag : Obligations.PauseAndResumeSetTheContinueFlag := by
  intro s tag loader e yes h hstation hother he request kind
  have hactive : s.active = true := (State.activeAs_iff.mp h.activeAs).1
  obtain ⟨hloader, -⟩ := State.entry?_some he
  let act (s : State) : State × Answer := s.onEntry loader (State.setContinue yes)
  have hexec : exec request s = .next (s.request kind tag true (some .chair) act) := by
    cases yes <;> rfl
  have hadmits : s.Admits kind (some .chair) := h.admits kind
  have hact : act s.taken = s.taken.setContinue yes e :=
    State.onEntry_of_held (s := s.taken) (State.badLoader_eq_false hstation hother) he
  let u : State := s.taken.mapEntry loader.toNat fun y => { y with continueOk := yes }
  have hu : u.entry? loader.toNat = some { e with continueOk := yes } :=
    State.mapEntry_entry? (s := s.taken) (f := fun y => { y with continueOk := yes }) he fun _ => rfl
  have hset (hmode : e.mode = .supervise) : act s.taken = (u.giveSupervise loader.toNat, { code := .ok }) := by
    simp only [hact, State.setContinue, hmode, hloader, u]
  refine ⟨fun hmode hphase => ?_, fun hmode hphase => ?_, fun hmode => ?_⟩
  · obtain ⟨q, hgive, hjoined⟩ :=
      State.giveSupervise_spec (s := u) hactive hu (Entry.supervised_iff.mpr ⟨hmode, hphase⟩)
    replace hset := hset hmode
    rw [hgive] at hset
    obtain ⟨k, hrequest, hreplies⟩ := hadmits.posting tag hset (.refl _)
    refine ⟨k, q, ?_, ?_, hreplies⟩
    · rw [hexec, hrequest, State.mapEntry_mapEntry s.taken (f := fun y => { y with continueOk := yes }) fun _ => rfl]
      rfl
    · simp only [superviseFrame, hloader, byteOfBool] at hjoined
      exact hjoined
  · have hsilent : ({ e with continueOk := yes } : Entry).supervised = false := by
      rw [← Bool.not_eq_true, Entry.supervised_iff]
      rcases hphase with ⟨g, out, hphase⟩ | ⟨out, hphase⟩ | hphase <;> simp [hphase]
    replace hset := hset hmode
    rw [State.giveSupervise_of_not hu hsilent] at hset
    obtain ⟨k, hrequest, hreplies⟩ := hadmits.posting tag hset (.refl _)
    exact ⟨k, by rw [hexec, hrequest]; rfl, hreplies⟩
  · have hrefused : act s.taken = (s.taken, { code := .notSupervise }) := by
      simp only [hact, State.setContinue, hmode]
    obtain ⟨k, hrequest, hreplies⟩ := hadmits.answers tag hrefused
    exact ⟨k, by rw [hexec, hrequest], hreplies⟩

/-! ### The drive interval (R139 to R141) -/

theorem State.axesStale_eq_false {s : State} {a : Axes} (haxes : s.relay.axes = some a) :
    s.axesStale = false ↔ s.now - a.arrived ≤ ms (3 * s.settings.p) := by
  unfold State.axesStale
  rw [haxes]
  exact decide_eq_false_iff_not.trans not_lt

theorem State.axesStale_of_late {s : State}
    (h : ∀ a, s.relay.axes = some a → ms (3 * s.settings.p) < s.now - a.arrived) : s.axesStale = true := by
  cases haxes : s.relay.axes with
  | none => simp [State.axesStale, haxes]
  | some a =>
    unfold State.axesStale
    rw [haxes]
    exact decide_eq_true (h a haxes)

/-- Table 2-3: the flags byte, bit by bit. -/
theorem driveFlags_eq (deadman stale seat : Bool) :
    driveFlags deadman stale seat =
      (if deadman then 1 else 0) ||| (if stale then 2 else 0) ||| (if seat then 4 else 0) := by
  cases deadman <;> cases stale <;> cases seat <;> decide

theorem driveFrame_neutral (e : Entry) (flags : Byte) :
    driveFrame e 0 0 0 0 flags = TxFrame.make .drive e.loader e.loader e.epoch [0, 0, 0, 0, 0, flags] := rfl

theorem State.buildDrive_fresh {s : State} {e : Entry} {a : Axes} (haxes : s.relay.axes = some a)
    (hfresh : s.axesStale = false) :
    s.buildDrive e = TxFrame.make .drive e.loader e.loader e.epoch
      ([byteOfInt a.steer] ++ bytesOfInt16 (if s.discrete.seat.active then a.travel else 0) ++
        [byteOfInt a.boom, byteOfInt a.bucket,
          (if s.discrete.deadman.active then 1 else 0) ||| (if s.discrete.seat.active then 4 else 0)]) := by
  simp [State.buildDrive, hfresh, haxes, driveFlags_eq, driveFrame]

theorem State.buildDrive_stale {s : State} {e : Entry} (hstale : s.axesStale = true) :
    s.buildDrive e = TxFrame.make .drive e.loader e.loader e.epoch [0, 0, 0, 0, 0,
      (if s.discrete.deadman.active then 1 else 0) ||| 2 ||| (if s.discrete.seat.active then 4 else 0)] := by
  simp only [State.buildDrive, hstale, driveFlags_eq, driveFrame_neutral, if_true]

section interval
variable {s : State} {e : Entry} {due : Nat}

/-- R139: the state at a drive interval expiry, with the timer started again for P. -/
def State.atDriveInterval (due : Nat) (s : State) : State :=
  { s with
    now := max s.now due, relay := { s.relay with driveTimer := some (max s.now due + ms s.settings.p) } }

theorem State.driveInterval_eq :
    s.driveInterval due =
      match s.driveEntry? with
      | none => s.atDriveInterval due
      | some e =>
        match e.phase with
        | .held _ | .offering _ => (s.atDriveInterval due).give ((s.atDriveInterval due).buildDrive e)
        | .releasing _ => (s.atDriveInterval due).give ((s.atDriveInterval due).neutralDrive e)
        | .acquiring .. | .suspended => s.atDriveInterval due := by
  have hunder : s.atDriveInterval due = { s.reach due with
      relay := { s.relay with driveTimer := some ((s.reach due).now + (s.reach due).periods 1) } } := by
    simp [State.atDriveInterval, State.reach, State.periods, State.settings]
  rw [hunder]
  rfl

theorem State.driveInterval_settled (hdrive : s.driveEntry? = some e)
    (hphase : (∃ o, e.phase = .held o) ∨ ∃ o, e.phase = .offering o) :
    s.driveInterval due = (s.atDriveInterval due).give ((s.atDriveInterval due).buildDrive e) := by
  rcases hphase with ⟨o, hphase⟩ | ⟨o, hphase⟩ <;> simp only [State.driveInterval_eq, hdrive, hphase]

theorem State.driveInterval_releasing {out : Outstanding} (hdrive : s.driveEntry? = some e)
    (hphase : e.phase = .releasing out) :
    s.driveInterval due = (s.atDriveInterval due).give ((s.atDriveInterval due).neutralDrive e) := by
  simp only [State.driveInterval_eq, hdrive, hphase]

theorem State.driveInterval_silent
    (h : s.driveEntry? = none ∨
      ∃ e, s.driveEntry? = some e ∧ ((∃ g out, e.phase = .acquiring g out) ∨ e.phase = .suspended)) :
    s.driveInterval due = s.atDriveInterval due := by
  rcases h with hnone | ⟨e, hdrive, ⟨g, out, hphase⟩ | hphase⟩
  · simp only [State.driveInterval_eq, hnone]
  · simp only [State.driveInterval_eq, hdrive, hphase]
  · simp only [State.driveInterval_eq, hdrive, hphase]

end interval

/-- Settles O50: the DRIVE entry's phase decides the frame, and the axes and inputs of the moment its body. -/
theorem theRelayDrivesAndSupervises : Obligations.TheRelayDrivesAndSupervises := by
  refine ⟨?_, fun s loader e due hchair he hmode hphase hdue => ?_⟩
  · intro s due hchair hdue now next seat deadman
    have hactive : s.active = true := (State.activeAs_iff.mp hchair).1
    have hexec := State.exec_driveInterval hchair hdue
    have gives {f g : TxFrame} (hclass : g.kind.frameClass = .c) (hframe : f = g)
        (hgives : s.driveInterval due = (s.atDriveInterval due).give f) :
        ∃ q, exec .driveIntervalExpiry s = .next (next q) ∧ Liu.Joined g s.liu q := by
      obtain ⟨q, hgive, hjoined⟩ := State.give_room (s := s.atDriveInterval due) (f := g) hactive
        (by unfold Liu.HasRoom; rw [hclass]; trivial)
      exact ⟨q, by rw [hexec, hgives, hframe, hgive]; rfl, hjoined⟩
    refine ⟨fun e a hdrive hphase haxes hfresh => ?_, fun e hdrive hphase hlate => ?_, fun e out hdrive hphase => ?_,
      fun hsilent => ?_⟩
    · exact gives rfl (State.buildDrive_fresh (s := s.atDriveInterval due) haxes
          ((State.axesStale_eq_false (s := s.atDriveInterval due) haxes).mpr hfresh))
        (State.driveInterval_settled hdrive hphase)
    · exact gives rfl (State.buildDrive_stale (s := s.atDriveInterval due) (State.axesStale_of_late (s := s.atDriveInterval due) hlate))
        (State.driveInterval_settled hdrive hphase)
    · refine gives rfl ?_ (State.driveInterval_releasing hdrive hphase)
      simp [State.neutralDrive, driveFrame_neutral, driveFlags_eq, State.atDriveInterval, seat]
    · rw [hexec, State.driveInterval_silent hsilent]
      rfl
  · have hactive : s.active = true := (State.activeAs_iff.mp hchair).1
    obtain ⟨hloader, -⟩ := State.entry?_some he
    obtain ⟨q, hgive, hjoined⟩ := State.giveSupervise_spec (s := s.reach due) hactive he
      (Entry.supervised_iff.mpr ⟨hmode, hphase⟩)
    refine ⟨q, (State.exec_superviseDeadline hchair he hdue).trans (congrArg _ hgive), ?_⟩
    simp only [superviseFrame, hloader, byteOfBool] at hjoined
    exact hjoined

end Sys2Proof.Machine
end

/-!
PROOFS. What the Call Board's operations post (R84, R88, R89, R100, R102): the end of a gesture, a presentation, a removal,
a newcomer, and a replacement.
-/
section

namespace Sys2Proof.Machine

/-! ### Notices that fill the queue (R182) -/

/-- R182: notices posted with room, which take a place of the notice queue each at most. -/
def Link.Fills (ns : List Notice) (raised : Half) (k k' : Link) : Prop :=
  k.Posts ns raised k' ∧ k'.notices.length ≤ k.notices.length + ns.length

theorem Link.Fills.refl (k : Link) : k.Fills [] 0 k := ⟨.refl k, Nat.le_refl _⟩

theorem Link.Fills.trans {ns ms : List Notice} {a b : Half} {k₁ k₂ k₃ : Link} (h : k₁.Fills ns a k₂)
    (h' : k₂.Fills ms b k₃) : k₁.Fills (ns ++ ms) (a ||| b) k₃ :=
  ⟨h.1.trans h'.1, by
    have hfirst := h.2
    have hsecond := h'.2
    rw [List.length_append]
    omega⟩

theorem Link.Fills.then {ns ms : List Notice} {b : Half} {k₁ k₂ k₃ : Link} (h : k₁.Fills ns 0 k₂)
    (h' : k₂.Fills ms b k₃) : k₁.Fills (ns ++ ms) b k₃ := by
  simpa using h.trans h'

theorem State.post_fills {n : Notice} {s : State} (hroom : s.link.notices.length < 32)
    (hstate : n.isState = false := by rfl) : s.link.Fills [n] 0 (s.post n).link :=
  ⟨State.post_posts hstate hroom, State.post_length_le n s⟩

theorem Link.raise_fills (f : EventFlag) (k : Link) : k.Fills [] f.set (k.raise f) :=
  ⟨Link.raise_posts f k, by simp⟩

theorem State.tell_fills {n : Notice} {s : State} (hroom : s.link.notices.length < 32)
    (hstate : n.isState = false := by rfl) : s.link.Fills [n] n.holdFlag (s.tell n).link :=
  ⟨State.tell_posts hstate hroom, State.tell_length_le n s⟩

/-! ### Parts of the Board's operations (R84, R100, R102) -/

/-- R100: an armed gesture that ends with a cause. -/
theorem State.failGesture_fills {s : State} {g : Gesture} (hgesture : s.board.gesture = some g) (c : GestureCause)
    (hroom : s.link.notices.length < 32) :
    s.link.Fills [.gestureFailed g.loader g.request c] 0 (s.failGesture c).link := by
  unfold State.failGesture
  rw [hgesture]
  exact State.post_fills (n := .gestureFailed g.loader g.request c)
    (s := { s with board := { s.board with gesture := none } }) hroom

/-- R84, R102: what a presentation posts and raises. -/
def presentNotices (items : List Item) : List Notice :=
  (nextPresented? items).toList.map fun i => .presented i.loader i.kind i.mode

def presentFlags (items : List Item) : Half := if (nextPresented? items).isSome then 0x0001 else 0

/-- R84, R102: PRESENTED posted with room, and CALL raised. -/
theorem State.announceItem_fills {s : State} (i : Item) (hroom : s.link.notices.length < 32) :
    s.link.Fills [.presented i.loader i.kind i.mode] 0x0001 (s.announceItem i).link :=
  (State.post_fills (n := .presented i.loader i.kind i.mode) hroom).then (Link.raise_fills .call _)

theorem State.present_fills {s : State} (hroom : s.link.notices.length < 32) :
    s.link.Fills (presentNotices s.board.items) (presentFlags s.board.items) s.present.link := by
  rw [State.present_link]
  unfold presentNotices presentFlags
  cases nextPresented? s.board.items with
  | none => exact .refl _
  | some i => exact State.announceItem_fills i hroom

/-! ### Removal (R89, R90) -/

theorem Farewell.notice?_not_state {w : Farewell} {i : Item} {n : Notice} (h : w.notice? i = some n) :
    n.isState = false := by
  cases w with
  | silent => cases h
  | gone c => cases h; rfl
  | granted holder =>
    simp only [Farewell.notice?, Option.some.injEq] at h
    subst h
    split <;> rfl

theorem State.gesture_of_gestureFor? {s : State} {loader : Nat} {g : Gesture}
    (h : s.board.gestureFor? loader = some g) : s.board.gesture = some g :=
  (Option.filter_eq_some_iff.mp h).1

theorem State.post?_fills {s : State} {n : Option Notice} (hroom : s.link.notices.length + n.toList.length ≤ 32)
    (hstate : ∀ m, n = some m → m.isState = false) : s.link.Fills n.toList 0 (s.post? n).link := by
  cases n with
  | none => exact .refl _
  | some m => exact State.post_fills (by simpa using hroom) (hstate m rfl)

/-- R89: the notices of an item taken off the Board, up to the presentation. -/
theorem State.takenOff_fills {s : State} {loader : Nat} {n : Option Notice}
    (hroom : s.link.notices.length + n.toList.length < 32) (hstate : ∀ m, n = some m → m.isState = false) :
    s.link.Fills
      (n.toList ++
        (s.board.gestureFor? loader).toList.map fun g => .gestureFailed g.loader g.request .itemGone)
      0 (s.takenOff loader n).link := by
  let u : State := { s with board := { s.board with items := s.board.items.filter (·.loader ≠ loader) } }
  have hnotice : s.link.Fills n.toList 0 (u.post? n).link := State.post?_fills (s := u) (Nat.le_of_lt hroom) hstate
  have hgesture : (u.post? n).boardGesture loader = (s.board.gestureFor? loader).isSome := by
    rw [State.boardGesture_eq, State.post?_board]
    rfl
  have hequation : s.takenOff loader n =
      if (s.board.gestureFor? loader).isSome then (u.post? n).failGesture .itemGone else u.post? n := by
    rw [← hgesture]
    rfl
  rw [hequation]
  cases hfor : s.board.gestureFor? loader with
  | none => simpa using hnotice
  | some g =>
    have hlength := hnotice.2
    exact hnotice.then (State.failGesture_fills (s := u.post? n)
      (by rw [State.post?_board]; exact State.gesture_of_gestureFor? hfor) .itemGone (by omega))

/-- R100: at most one gesture ends with an item. -/
theorem Board.gestureFor?_toList_length (loader : Nat) (b : Board) : (b.gestureFor? loader).toList.length ≤ 1 := by
  cases b.gestureFor? loader <;> simp

/-- R84, R89, R90: an item leaves the Board with the notice of its farewell, and what follows. -/
theorem State.removeItem_fills {s : State} {loader : Nat} {i : Item} {w : Farewell} (hitem : s.item? loader = some i)
    (hroom : s.link.notices.length + (w.notice? i).toList.length + (s.board.gestureFor? loader).toList.length < 32) :
    s.link.Fills ((w.notice? i).toList ++ s.leavingNotices loader) (s.leavingFlags loader)
      (s.removeItem loader w).link := by
  have htaken := State.takenOff_fills (s := s) (loader := loader) (n := w.notice? i) (by omega)
    fun m hm => Farewell.notice?_not_state hm
  have hitems : (s.takenOff loader (w.notice? i)).board.items = s.board.items.filter (·.loader ≠ loader) := by
    rw [State.takenOff_frame]
  have hlength := htaken.2
  rw [List.length_append, List.length_map] at hlength
  have hpresent := State.present_fills (s := s.takenOff loader (w.notice? i)) (by omega)
  rw [hitems] at hpresent
  rw [State.removeItem_of_some hitem]
  simpa [State.leavingNotices, State.leavingFlags, hitem, Board.nextItem?_eq, presentNotices, presentFlags] using
    htaken.then hpresent

/-- R84, R89, R90: what a removal leaves of the state, and what it posts. -/
theorem State.removeItem_spec {s : State} {loader : Nat} {i : Item} {w : Farewell} (hitem : s.item? loader = some i)
    (hroom : s.link.notices.length + (w.notice? i).toList.length < 31) :
    ∃ k, s.removeItem loader w = { s.withoutItem loader with link := k } ∧
      s.link.Fills ((w.notice? i).toList ++ s.leavingNotices loader) (s.leavingFlags loader) k :=
  ⟨_, State.removeItem_frame loader w s, State.removeItem_fills hitem
    (Nat.add_lt_add_of_lt_of_le hroom (Board.gestureFor?_toList_length loader s.board))⟩

/-- R92: an item leaves the Board without a notice of its own, if there is one. -/
theorem State.removeSilently_spec {s : State} (loader : Nat)
    (hroom : s.link.notices.length + (s.board.gestureFor? loader).toList.length < 32) :
    ∃ k, s.removeItem loader .silent = { s.withoutItem loader with link := k } ∧
      s.link.Fills (s.leavingNotices loader) (s.leavingFlags loader) k := by
  cases hitem : s.item? loader with
  | none =>
    refine ⟨s.link, ?_, ?_⟩
    · simp [State.removeItem_of_none hitem, State.withoutItem, hitem]
    · simpa [State.leavingNotices, State.leavingFlags, hitem] using Link.Fills.refl s.link
  | some i => exact ⟨_, State.removeItem_frame loader .silent s, State.removeItem_fills (w := .silent) hitem hroom⟩

/-! ### A newcomer (R88) -/

theorem State.joinBoard_spec {s : State} (i : Item) (hroom : s.link.notices.length < 31) :
    ∃ k, s.joinBoard i =
        { s with
          board := { s.board with items := shown (s.board.items ++ [i]) }
          discrete := { s.discrete with indicator := true }
          link := k } ∧
      s.link.Fills ([.boarded i.loader i.kind i.mode] ++ presentNotices (s.board.items ++ [i]))
        (presentFlags (s.board.items ++ [i])) k := by
  refine ⟨_, State.joinBoard_frame i s, ?_⟩
  let u : State := { s with board := { s.board with items := s.board.items ++ [i] } }
  have hboarded : s.link.Fills [.boarded i.loader i.kind i.mode] 0 (u.post (.boarded i.loader i.kind i.mode)).link :=
    State.post_fills (s := u) (by exact Nat.lt_succ_of_lt hroom)
  have hlength : (u.post (.boarded i.loader i.kind i.mode)).link.notices.length ≤ s.link.notices.length + 1 := hboarded.2
  exact hboarded.then (State.present_fills (s := u.post (.boarded i.loader i.kind i.mode)) (by omega))

end Sys2Proof.Machine
end

/-!
PROOFS. What an OFFER and an ASSIST_CALL do at the Call Board (R85 to R88).
-/
section

namespace Sys2Proof.Machine

/-! ### From a frame to its item (R11, R85, R86) -/

/-- R85, R86: what becomes of a heard item, named to this chair or not. -/
def State.takeHeard (f : RxFrame) (i : Item) (named : Bool) (s : State) : State :=
  if s.holds.posture ≠ .active then (if named then s.autoDecline f .vacant else s)
  else if s.isHeld f.loader then s
  else if 6 ≤ s.holds.entries.length ∧ named = true then (s.autoDecline f .tableFull).removeItem f.loader (.gone .declined)
  else s.boardItem f i

/-- R85: the item of an OFFER, named or to a pool. -/
def State.offerItem (f : RxFrame) (m : Mode) (named : Bool) (s : State) : Item :=
  ⟨f.loader, if named then .namedOffer f.source else .poolOffer f.source (f.dest - 64), m, f.epoch,
    s.now + s.offerSpan (f.halfAt 1), false⟩

/-- R86: the item of an ASSIST_CALL. -/
def State.assistItem (f : RxFrame) (s : State) : Item :=
  ⟨f.loader, .assist (f.dest - 64) (f.halfAt 0), .drive, f.epoch, s.now + sec 6, false⟩

theorem State.poolReaches_iff (dest : Nat) (s : State) :
    s.poolReaches dest = true ↔ 65 ≤ dest ∧ s.settings.pools.getLsbD (dest - 65) = true := by
  unfold State.poolReaches State.inPools
  rw [Bool.and_eq_true, Nat.sub_sub]
  exact and_congr_left' decide_eq_true_iff

section heard
variable {s : State} {f : RxFrame} {i : Item}

theorem State.heardItem?_offer (hkind : f.kind = .offer) :
    s.heardItem? f =
      if f.loader = 0 ∨ f.loader = s.station then none
      else (modeOf? (f.at 0)).bind fun m =>
        if f.dest = s.station then some (s.offerItem f m true)
        else if s.poolReaches f.dest = true then some (s.offerItem f m false)
        else none := by
  unfold State.heardItem?
  simp only [hkind, State.poolReaches_iff]
  cases modeOf? (f.at 0) <;> rfl

theorem State.heardItem?_assistCall (hkind : f.kind = .assistCall) :
    s.heardItem? f =
      if f.loader = 0 ∨ f.loader = s.station then none
      else if s.poolReaches f.dest = true then some (s.assistItem f) else none := by
  unfold State.heardItem?
  simp only [hkind, State.poolReaches_iff]
  rfl

theorem State.kind_of_heardItem? (hi : s.heardItem? f = some i) : f.kind = .offer ∨ f.kind = .assistCall := by
  unfold State.heardItem? at hi
  cases hkind : f.kind <;> simp [hkind] at hi ⊢

theorem State.deliverChair_offer (hkind : f.kind = .offer) :
    s.deliverChair f =
      if f.dest = s.station ∨ s.poolReaches f.dest = true then
        match modeOf? (f.at 0) with
        | none => s
        | some m =>
          if f.loader = 0 ∨ f.loader = s.station then s
          else s.takeHeard f (s.offerItem f m (decide (f.dest = s.station))) (decide (f.dest = s.station))
      else s := by
  rw [State.deliverChair, hkind]
  unfold State.boardOffer RxFrame.mode? State.takeHeard State.offerItem
  cases modeOf? (f.at 0) <;> rfl

theorem State.deliverChair_assistCall (hkind : f.kind = .assistCall) (he : s.entry? f.loader = none) :
    s.deliverChair f =
      if s.poolReaches f.dest = true then
        if f.loader = 0 ∨ f.loader = s.station then s else s.takeHeard f (s.assistItem f) false
      else s := by
  have hheld : s.isHeld f.loader = false := by simp [State.isHeld, he]
  rw [State.deliverChair, hkind]
  unfold State.chairAssist
  rw [he]
  by_cases hother : f.loader = 0 ∨ f.loader = s.station
  · rcases hother with h | h <;> simp [State.boardAssist, h]
  · by_cases hposture : s.holds.posture = .active
    · simp only [State.boardAssist, State.takeHeard, hheld, hposture, hother, or_false, if_false, ne_eq,
      not_true_eq_false, Bool.false_eq_true,
      and_false]
      rfl
    · simp [State.boardAssist, State.takeHeard, hposture, hother]

/-- R11, R85, R86: a frame that carries an item for this chair gives it to the Board. -/
theorem State.deliverChair_of_heard (hi : s.heardItem? f = some i)
    (hassist : f.kind = .assistCall → s.entry? f.loader = none) :
    s.deliverChair f = s.takeHeard f i (decide (i.kind = .namedOffer f.source)) ∧ i.loader = f.loader ∧
      i.presented = false ∧ ∀ n, i.kind = .namedOffer n → n = f.source := by
  rcases State.kind_of_heardItem? hi with hkind | hkind
  · rw [State.heardItem?_offer hkind] at hi
    rw [State.deliverChair_offer hkind]
    split at hi
    · cases hi
    next hother =>
    obtain ⟨m, hm, hi⟩ := Option.bind_eq_some_iff.mp hi
    simp only [hm, if_neg hother]
    split at hi
    · next hdest =>
      cases hi
      simp +contextual [hdest, State.offerItem]
    · next hdest =>
      obtain ⟨hpool, hi⟩ := Option.ite_none_right_eq_some.mp hi
      cases hi
      simp [hdest, hpool, State.offerItem]
  · rw [State.heardItem?_assistCall hkind] at hi
    rw [State.deliverChair_assistCall hkind (hassist hkind)]
    split at hi
    · cases hi
    next hother =>
    obtain ⟨hpool, hi⟩ := Option.ite_none_right_eq_some.mp hi
    cases hi
    rw [if_pos hpool, if_neg hother]
    simp [State.assistItem]

/-- R11, R85, R86: a frame that carries none changes nothing. -/
theorem State.deliverChair_of_unheard (hi : s.heardItem? f = none)
    (hkind : f.kind = .offer ∨ (f.kind = .assistCall ∧ s.entry? f.loader = none)) : s.deliverChair f = s := by
  rcases hkind with hkind | ⟨hkind, he⟩
  · rw [State.heardItem?_offer hkind] at hi
    rw [State.deliverChair_offer hkind]
    by_cases hother : f.loader = 0 ∨ f.loader = s.station
    · cases modeOf? (f.at 0) <;> simp [hother]
    · rw [if_neg hother] at hi
      cases hm : modeOf? (f.at 0) with
      | none => simp
      | some m =>
        by_cases hdest : f.dest = s.station
        · simp [hm, hdest] at hi
        · by_cases hpool : s.poolReaches f.dest = true <;> simp [hm, hdest, hpool] at hi ⊢
  · rw [State.heardItem?_assistCall hkind] at hi
    rw [State.deliverChair_assistCall hkind he]
    by_cases hpool : s.poolReaches f.dest = true
    · by_cases hother : f.loader = 0 ∨ f.loader = s.station
      · rw [if_pos hpool, if_pos hother]
      · simp [hpool, hother] at hi
    · rw [if_neg hpool]

end heard

/-- R11, R85, R86: the end of a reception that carries an item for this chair. -/
theorem State.TakesAsChair.hears {s : State} {f : RxFrame} {i : Item} (h : s.TakesAsChair f)
    (hi : s.heardItem? f = some i) (hassist : f.kind = .assistCall → s.entry? f.loader = none) :
    exec .receptionComplete s = .next (s.received.takeHeard f i (decide (i.kind = .namedOffer f.source))) ∧
      i.loader = f.loader ∧ i.presented = false ∧ ∀ n, i.kind = .namedOffer n → n = f.source := by
  obtain ⟨hdeliver, hitem⟩ := State.deliverChair_of_heard (s := s.received) hi hassist
  exact ⟨h.exec_receptionComplete.trans (congrArg _ hdeliver), hitem⟩

section taken
variable {s : State} {f : RxFrame} {i : Item} {named : Bool}

/-- R87, R88: an item for a loader that is not held, in posture ACTIVE, not a named offer that finds the table full. -/
theorem State.takeHeard_of_room (hposture : s.holds.posture = .active) (he : s.entry? f.loader = none)
    (hroom : named = true → s.holds.entries.length < 6) : s.takeHeard f i named = s.boardItem f i := by
  have hheld : s.isHeld f.loader = false := by simp [State.isHeld, he]
  unfold State.takeHeard
  rw [if_neg (by simp [hposture]), if_neg (by simp [hheld]), if_neg]
  rintro ⟨hfull, hnamed⟩
  exact absurd (hroom hnamed) (by omega)

theorem State.boardItem_of_new (hitem : s.item? i.loader = none) (hlength : s.board.items.length < 8) :
    s.boardItem f i = s.joinBoard i := by
  simp [State.boardItem, hitem, Config.boardSize, hlength]

end taken

/-- R84: a newcomer on an empty Board is the one presented. -/
theorem nextPresented?_single {i : Item} (h : i.presented = false) : nextPresented? [i] = some i := by
  cases hkind : i.kind <;> simp [nextPresented?, h, firstItem, firstOfLevel, ItemKind.level, hkind]

theorem nextPresented?_of_presented {items : List Item} (h : items.any (·.presented) = true) :
    nextPresented? items = none := by
  simp [nextPresented?, h]

/-- R84: a newcomer beside a presented item waits. -/
theorem nextPresented?_append {s : State} (h : s.presented? ≠ none) (i : Item) :
    nextPresented? (s.board.items ++ [i]) = none := by
  have hany : s.board.items.any (·.presented) = true := by
    rw [← State.presented?_isSome]
    exact Option.isSome_iff_ne_none.mpr h
  exact nextPresented?_of_presented (by rw [List.any_append, hany]; rfl)

/-- Settles O36: the frame's item joins the Board, and is presented when the Board was empty. -/
theorem aNewcomerIsBoardedAndPresented : Obligations.ANewcomerIsBoardedAndPresented := by
  refine ⟨fun s f i h hi hposture he hitem hnamed hroom => ?_, fun s f h hkind hi => ?_⟩
  · obtain ⟨hexec, hloader, hwaiting, -⟩ := h.hears hi fun _ => he
    rw [State.takeHeard_of_room (s := s.received) hposture he fun hn => hnamed (of_decide_eq_true hn)] at hexec
    have joins (hlength : s.board.items.length < 8) : exec .receptionComplete s = .next (s.received.joinBoard i) := by
      rw [hexec, State.boardItem_of_new (s := s.received) (by rw [hloader]; exact hitem) hlength]
    obtain ⟨k, hjoin, hposts, -⟩ := State.joinBoard_spec (s := s.received) i hroom
    refine ⟨fun hempty => ⟨k, ?_, ?_⟩, fun hpresented hlength => ⟨k, ?_, ?_⟩⟩
    · rw [joins (by rw [hempty]; decide), hjoin]
      simp [hempty, shown, nextPresented?_single hwaiting, markPresented]
    · simpa [hempty, presentNotices, presentFlags, nextPresented?_single hwaiting] using hposts
    · have hnext := nextPresented?_append hpresented i
      rw [joins hlength, hjoin]
      simp [shown, hnext]
    · have hnext := nextPresented?_append hpresented i
      simpa [presentNotices, presentFlags, hnext] using hposts
  · rw [h.exec_receptionComplete, State.deliverChair_of_unheard (s := s.received) hi hkind]

end Sys2Proof.Machine
end

/-!
PROOFS. The other ends of a heard item: declined, replacing the item of its loader, or displacing one (R85, R87, R88).
-/
section

namespace Sys2Proof.Machine

/-! ### The item that is displaced (R88) -/

/-- The largest of a list's values: it bounds all of them, and is one of them unless it is where it began. -/
theorem foldl_max_spec {α : Type} (f : α → Nat) (l : List α) (a : Nat) :
    a ≤ l.foldl (fun m x => max m (f x)) a ∧ (∀ x ∈ l, f x ≤ l.foldl (fun m x => max m (f x)) a) ∧
      (l.foldl (fun m x => max m (f x)) a = a ∨ ∃ x ∈ l, f x = l.foldl (fun m x => max m (f x)) a) := by
  induction l generalizing a with
  | nil => simp
  | cons x rest ih =>
    obtain ⟨hstart, hbound, hreached⟩ := ih (max a (f x))
    simp only [List.foldl_cons, List.forall_mem_cons, List.exists_mem_cons_iff]
    refine ⟨by omega, ⟨by omega, hbound⟩, ?_⟩
    rcases hreached with hreached | hreached
    · rcases max_choice a (f x) with hmax | hmax
      · exact .inl (hreached.trans hmax)
      · exact .inr (.inl (hreached.trans hmax).symm)
    · exact .inr (.inr hreached)

theorem ItemKind.level_range (kind : ItemKind) : 1 ≤ kind.level ∧ kind.level ≤ 3 := by
  cases kind <;> simp [ItemKind.level]

theorem find?_level_eq_none {l : List Item} {m level : Nat} (h : ∀ i ∈ l, i.kind.level ≤ m) (hm : m < level) :
    l.find? (·.kind.level = level) = none := by
  rw [List.find?_eq_none]
  intro i hi
  have := h i hi
  simp only [decide_eq_true_eq]
  omega

/-- R88: the model's search for the item to displace is the rule's. -/
theorem Board.displaced?_eq (level : Nat) (b : Board) : b.displaced? level = Machine.displaced? level b.items := by
  let waiting := b.items.filter (!·.presented)
  obtain ⟨-, hbound, hreached⟩ := foldl_max_spec (fun i : Item => i.kind.level) waiting 0
  let m := highestUnpresented b.items
  have hm : waiting.foldl (fun a i => max a i.kind.level) 0 = m := rfl
  rw [hm] at hbound hreached
  have hfirst : (waiting.find? (·.kind.level = 3)).or
      ((waiting.find? (·.kind.level = 2)).or (waiting.find? (·.kind.level = 1))) =
      waiting.find? (·.kind.level = m) := by
    rcases hreached with hzero | ⟨i, hi, hlevel⟩
    · rw [find?_level_eq_none hbound (by omega), find?_level_eq_none hbound (by omega),
        find?_level_eq_none hbound (by omega), hzero]
      symm
      show _ = (none : Option Item)
      rw [List.find?_eq_none]
      intro i hi
      have := (ItemKind.level_range i.kind).1
      simp only [decide_eq_true_eq]
      omega
    · have hfound : (waiting.find? (·.kind.level = m)).isSome := by
        rw [List.find?_isSome]
        exact ⟨i, hi, decide_eq_true hlevel⟩
      have hrange := ItemKind.level_range i.kind
      obtain hone | htwo | hthree : m = 1 ∨ m = 2 ∨ m = 3 := by omega
      · rw [find?_level_eq_none hbound (by omega), find?_level_eq_none hbound (by omega), hone]
        rfl
      · rw [find?_level_eq_none hbound (by omega), ← htwo, Option.or_of_isSome hfound]
        rfl
      · rw [← hthree, Option.or_of_isSome hfound]
  have hfilter : (waiting.find? (·.kind.level = m)).filter (fun j => decide (level < j.kind.level)) =
      if level < m then waiting.find? (·.kind.level = m) else none := by
    cases hfind : waiting.find? (·.kind.level = m) with
    | none => simp
    | some j =>
      have hlevel : j.kind.level = m := by simpa using List.find?_some hfind
      by_cases hlt : level < m <;> simp [Option.filter, hlevel, hlt]
  unfold Board.displaced?
  simp only []
  rw [hfirst, hfilter]
  rfl

/-! ### Replacement (R87) -/

/-- R87: the gesture that ends with the replacement of a loader's item. -/
def State.endedBy (old new : Item) (s : State) : Option Gesture :=
  (s.board.gestureFor? new.loader).filter fun _ =>
    decide (old.presented = true ∧
      (old.kind.level ≠ new.kind.level ∨ old.mode ≠ new.mode ∨ old.kind.offering? ≠ new.kind.offering?))

theorem State.endedBy_isSome (old new : Item) (s : State) : (s.endedBy old new).isSome = s.replaceEnds old new := by
  unfold State.endedBy State.replaceEnds ItemKind.sameKind
  cases s.board.gestureFor? new.loader with
  | none => simp
  | some g =>
    rw [Bool.eq_iff_iff]
    simp only [Option.isSome_filter, Option.any_some, Option.isSome_some, Bool.and_true, Bool.and_eq_true,
      Bool.not_eq_true', Bool.and_eq_false_iff, decide_eq_true_eq, decide_eq_false_iff_not, ne_eq, or_assoc]

theorem State.replaceItem_spec {s : State} (old new : Item) (hroom : s.link.notices.length < 30) :
    ∃ k, s.replaceItem old new =
        { s with
          board :=
            { items := s.board.items.filter (·.loader ≠ new.loader) ++ [{ new with presented := old.presented }]
              gesture := if (s.endedBy old new).isSome then none else s.board.gesture }
          link := k } ∧
      s.link.Fills
        ((s.endedBy old new).toList.map (fun g => .gestureFailed g.loader g.request .itemChanged) ++
          (if old.presented = true ∧ old.kind.level ≠ new.kind.level then [.presented new.loader new.kind new.mode]
           else []))
        (if old.presented = true ∧ old.kind.level ≠ new.kind.level then 0x0001 else 0) k := by
  refine ⟨_, by rw [State.endedBy_isSome]; exact State.replaceItem_frame old new s, ?_⟩
  let item : Item := { new with presented := old.presented }
  let u : State := { s with board := { s.board with items := s.board.items.filter (·.loader ≠ new.loader) ++ [item] } }
  let t : State := if (s.endedBy old new).isSome then u.failGesture .itemChanged else u
  have hequation : s.replaceItem old new =
      if old.presented = true ∧ old.kind.level ≠ new.kind.level then t.announceItem item else t := by
    have hbody : s.replaceItem old new =
        if (old.presented && !old.kind.sameKind new.kind) = true then
          (if s.replaceEnds old new = true then u.failGesture .itemChanged else u).announceItem item
        else if s.replaceEnds old new = true then u.failGesture .itemChanged else u := by
      unfold State.replaceItem
      simp only [State.boardGesture_eq]
      rfl
    rw [hbody, ← State.endedBy_isSome]
    exact if_congr (by simp [ItemKind.sameKind]) rfl rfl
  have hended : s.link.Fills
      ((s.endedBy old new).toList.map (fun g => .gestureFailed g.loader g.request .itemChanged)) 0 t.link := by
    unfold t
    cases hfor : s.endedBy old new with
    | none => exact .refl _
    | some g =>
      exact State.failGesture_fills (s := u)
        (State.gesture_of_gestureFor? (Option.filter_eq_some_iff.mp hfor).1) .itemChanged
        (by exact Nat.lt_trans hroom (by decide))
  have hone : ((s.endedBy old new).toList.map fun g =>
      Notice.gestureFailed g.loader g.request .itemChanged).length ≤ 1 := by
    cases s.endedBy old new <;> simp
  have hlength := hended.2
  rw [hequation]
  split
  · exact hended.then (State.announceItem_fills (s := t) item (by omega))
  · simpa using hended

/-! ### An automatic DECLINE (R85, R88) -/

theorem State.autoDecline_spec {s : State} (hactive : s.active = true) (hclass : s.liu.classA.length < 8)
    (hroom : s.link.notices.length < 32) (f : RxFrame) (r : DeclineReason) :
    ∃ q k, s.autoDecline f r = { s with liu := q, link := k } ∧
      Liu.Joined (TxFrame.make .decline f.source f.loader f.epoch [r.code]) s.liu q ∧
      s.link.Fills [.autoDeclined f.loader f.source r] 0 k := by
  obtain ⟨q, hgive, hjoined⟩ := State.give_room
    (f := TxFrame.make .decline f.source f.loader f.epoch [r.code]) hactive (by exact hclass)
  refine ⟨q, _, ?_, hjoined, State.post_fills (s := { s with liu := q }) hroom⟩
  unfold State.autoDecline
  rw [hgive]
  rfl

/-! ### Displacement (R88) -/

/-- R84, R98: on sound tables an unpresented item leaves the Board without a presentation and without ending a gesture. -/
theorem State.withoutItem_of_waiting {s : State} {i : Item} (hs : s.TablesSound) (hi : i ∈ s.board.items)
    (hwaiting : i.presented = false) :
    s.item? i.loader = some i ∧ s.board.gestureFor? i.loader = none ∧
      (s.board.items.filter (·.loader ≠ i.loader)).any (·.presented) = true := by
  obtain ⟨-, hnodup, -, hpresents, -, -, hgesture⟩ := hs
  have hsame {j : Item} (hj : j ∈ s.board.items) (hloader : j.loader = i.loader) : j = i :=
    List.inj_on_of_nodup_map hnodup hj hi hloader
  have hne : s.board.items.isEmpty = false := by
    cases hitems : s.board.items with
    | nil => rw [hitems] at hi; cases hi
    | cons j rest => rfl
  obtain ⟨p, hp⟩ : ∃ p, s.board.items.filter (·.presented) = [p] := by
    rw [← List.length_eq_one_iff]
    simpa [Board.Presents, hne] using hpresents
  obtain ⟨hmem, hpresented⟩ : p ∈ s.board.items ∧ p.presented = true := by
    simpa using (show p ∈ s.board.items.filter (·.presented) by rw [hp]; exact List.mem_singleton_self p)
  refine ⟨?_, ?_, ?_⟩
  · cases hfind : s.item? i.loader with
    | none =>
      have := List.find?_eq_none.mp hfind i hi
      simp at this
    | some j =>
      obtain ⟨hloader, hj⟩ := State.item?_some hfind
      rw [hsame hj hloader]
  · cases hfor : s.board.gestureFor? i.loader with
    | none => rfl
    | some g =>
      obtain ⟨hg, harmed⟩ := Option.filter_eq_some_iff.mp hfor
      obtain ⟨hrequest, hloader⟩ := of_decide_eq_true harmed
      obtain ⟨j, hj, hshown, hjl⟩ := hgesture g hg (by rw [hrequest]; rfl)
      rw [hsame hj (hjl.trans hloader), hwaiting] at hshown
      cases hshown
  · rw [List.any_eq_true]
    refine ⟨p, List.mem_filter.mpr ⟨hmem, decide_eq_true fun hloader => ?_⟩, hpresented⟩
    rw [hsame hmem hloader, hwaiting] at hpresented
    cases hpresented

theorem shown_of_none {items : List Item} (h : nextPresented? items = none) : shown items = items := by
  simp [shown, h]

theorem State.displace_spec {s : State} {gone i : Item} (hs : s.TablesSound) (hgone : gone ∈ s.board.items)
    (hwaiting : gone.presented = false) (hroom : s.link.notices.length < 30) :
    ∃ k, (s.removeItem gone.loader (.gone .displaced)).joinBoard i =
        { s with
          board := { s.board with items := s.board.items.filter (·.loader ≠ gone.loader) ++ [i] }
          discrete := { s.discrete with indicator := true }
          link := k } ∧
      s.link.Posts [.itemGone gone.loader gone.kind .displaced false, .boarded i.loader i.kind i.mode] 0 k := by
  obtain ⟨hitem, hgesture, hany⟩ := State.withoutItem_of_waiting hs hgone hwaiting
  have hnext : s.board.nextItem? gone.loader = none := by
    rw [Board.nextItem?_eq]
    exact nextPresented?_of_presented hany
  obtain ⟨k, hremoved, hfills⟩ := State.removeItem_spec (s := s) (w := .gone .displaced) hitem (by
    show s.link.notices.length + 1 < 31
    omega)
  have hnotices : s.leavingNotices gone.loader = [] := by simp [State.leavingNotices, hgesture, hnext]
  have hflags : s.leavingFlags gone.loader = 0 := by simp [State.leavingFlags, hnext]
  rw [hnotices, hflags] at hfills
  have hlength : k.notices.length ≤ s.link.notices.length + 1 := hfills.2
  let t : State := { s.withoutItem gone.loader with link := k }
  have hitems : t.board.items = s.board.items.filter (·.loader ≠ gone.loader) := by
    simp [t, State.withoutItem, hitem, hnext]
  have hwaits : nextPresented? (t.board.items ++ [i]) = none :=
    nextPresented?_of_presented (by rw [hitems, List.any_append, hany]; rfl)
  obtain ⟨k', hjoined, hfills'⟩ := State.joinBoard_spec (s := t) i (by show k.notices.length < 31; omega)
  refine ⟨k', ?_, ?_⟩
  · rw [hremoved, show ({ s.withoutItem gone.loader with link := k } : State) = t from rfl, hjoined, shown_of_none hwaits]
    simp [t, State.withoutItem, hitem, hnext, hgesture]
  · have hboth := (hfills.then hfills').1
    simpa [presentNotices, presentFlags, hwaits, Farewell.notice?, hwaiting] using hboth

/-- R88: what is displaced is an unpresented item of the Board. -/
theorem displaced?_waiting {level : Nat} {items : List Item} {gone : Item} (h : displaced? level items = some gone) :
    gone ∈ items ∧ gone.presented = false := by
  unfold displaced? at h
  obtain ⟨-, h⟩ := Option.ite_none_right_eq_some.mp h
  simpa using List.mem_of_find?_eq_some h

/-- R84, R89: an item's leaving and the line and the Local Link do not touch one another. -/
theorem State.withoutItem_beside (loader : Nat) (s : State) (q : Liu) (k : Link) :
    ({ s with liu := q, link := k } : State).withoutItem loader = { s.withoutItem loader with liu := q, link := k } := by
  unfold State.withoutItem
  by_cases hitem : s.item? loader = none
  · rw [if_pos hitem, if_pos (by exact hitem)]
  · rw [if_neg hitem, if_neg (by exact hitem)]

/-- Settles O37: Table 5-2 by posture, entry and named offer, then the Board by its items. -/
theorem anItemIsDeclinedReplacedOrDisplaces : Obligations.AnItemIsDeclinedReplacedOrDisplaces := by
  intro s f i h hi hassist hroom hclass named unboarded declined
  obtain ⟨hexec, hloader, hwaiting, hsource⟩ := h.hears hi hassist
  have hroom' : s.received.link.notices.length < 32 := by exact Nat.lt_trans hroom (by decide)
  have declines {r : DeclineReason} (hdecline : exec .receptionComplete s = .next (s.received.autoDecline f r)) :
      declined r s.received [] 0 := by
    obtain ⟨q, k, hframe, hjoined, hposts, -⟩ := State.autoDecline_spec (s := s.received) h.active hclass hroom' f r
    exact ⟨q, k, by rw [hdecline, hframe], hjoined, hposts⟩
  refine ⟨fun hposture => ?_, fun hposture he => ?_, fun hposture he => ⟨fun hnamed hfull => ?_, fun hroomy => ?_⟩⟩
  · unfold State.takeHeard at hexec
    rw [if_pos (by exact hposture)] at hexec
    exact ⟨fun hnamed => declines (hexec.trans (congrArg _ (if_pos (decide_eq_true hnamed)))),
      fun hnamed => hexec.trans (congrArg _ (if_neg fun h => hnamed (of_decide_eq_true h)))⟩
  · have hheld : s.received.isHeld f.loader = true := Option.isSome_iff_ne_none.mpr he
    unfold State.takeHeard at hexec
    rw [if_neg (by exact fun h => h hposture), if_pos hheld] at hexec
    exact hexec
  · have hheld : ¬ s.received.isHeld f.loader = true := by
      simp [State.isHeld, show s.received.entry? f.loader = none from he]
    unfold State.takeHeard at hexec
    rw [if_neg (by exact fun h => h hposture), if_neg hheld, if_pos ⟨hfull, decide_eq_true hnamed⟩] at hexec
    obtain ⟨q, k, hframe, hjoined, hdeclined⟩ :=
      State.autoDecline_spec (s := s.received) h.active hclass hroom' f .tableFull
    rw [hframe] at hexec
    have hlength : k.notices.length ≤ s.link.notices.length + 1 := hdeclined.2
    let t : State := { s.received with liu := q, link := k }
    cases hitem : s.item? f.loader with
    | none =>
      rw [State.removeItem_of_none (s := t) hitem] at hexec
      refine ⟨q, k, ?_, hjoined, ?_⟩
      · rw [hexec]
        simp [t, State.withoutItem, show s.received.item? f.loader = none from hitem]
      · simpa [State.leavingNotices, State.leavingFlags, hitem] using hdeclined.1
    | some old =>
      obtain ⟨hold, -⟩ := State.item?_some hitem
      obtain ⟨k', hremoved, hgone⟩ := State.removeItem_spec (s := t) (w := .gone .declined) hitem (by
        show k.notices.length + 1 < 31
        omega)
      refine ⟨q, k', ?_, hjoined, ?_⟩
      · rw [hexec, hremoved]
        exact congrArg (fun u : State => Host.Outcome.next { u with link := k' })
          (State.withoutItem_beside f.loader s.received q k)
      · have hnotices : t.leavingNotices f.loader = s.leavingNotices f.loader := rfl
        have hflags : t.leavingFlags f.loader = s.leavingFlags f.loader := rfl
        have hboth := (hdeclined.then hgone).1
        rw [hnotices, hflags] at hboth
        simpa [Farewell.notice?, hold, hitem] using hboth
  · rw [State.takeHeard_of_room (s := s.received) hposture he
      fun hn => hroomy.resolve_left fun h => h (of_decide_eq_true hn)] at hexec
    refine ⟨fun old hitem => ?_, fun hitem hfull hs => ?_⟩
    · intro changed ended
      have hitem' : s.received.item? i.loader = some old := by rw [hloader]; exact hitem
      obtain ⟨k, hreplaced, hposts, -⟩ := State.replaceItem_spec (s := s.received) old i (by exact Nat.lt_succ_of_lt hroom)
      have hboarded : s.received.boardItem f i = s.received.replaceItem old i := by simp only [State.boardItem, hitem']
      rw [hboarded, hreplaced] at hexec
      have hended : ended = s.received.endedBy old i := by
        simp only [ended, State.endedBy, hloader]
        rfl
      rw [hended, ← hloader]
      exact ⟨k, hexec, hposts⟩
    · have hitem' : s.received.item? i.loader = none := by rw [hloader]; exact hitem
      have hlength : ¬ s.received.board.items.length < Config.boardSize := Nat.not_lt.mpr hfull
      have hboarded : s.received.boardItem f i =
          match s.board.displaced? i.kind.level with
          | some gone => (s.received.removeItem gone.loader (.gone .displaced)).joinBoard i
          | none =>
            match i.kind with
            | .namedOffer _ => s.received.autoDecline f .boardFull
            | .assist .. | .poolOffer .. => s.received := by
        rw [Board.displaced?_eq]
        simp only [State.boardItem, hitem', hlength, if_false]
        rfl
      rw [hboarded] at hexec
      refine ⟨fun gone hgone => ?_, fun hnone => ⟨fun hnamed => ?_, fun hnamed => ?_⟩⟩
      · rw [hgone] at hexec
        rw [Board.displaced?_eq] at hgone
        obtain ⟨hmem, hwaits⟩ := displaced?_waiting hgone
        obtain ⟨k, hdisplaced, hposts⟩ :=
          State.displace_spec (s := s.received) (i := i) hs hmem hwaits (by exact Nat.lt_succ_of_lt hroom)
        exact ⟨k, hexec.trans (congrArg _ hdisplaced), hposts⟩
      · have hkind : i.kind = .namedOffer f.source := hnamed
        rw [hnone, hkind] at hexec
        exact declines hexec
      · rw [hnone] at hexec
        cases hkind : i.kind with
        | namedOffer n => exact absurd (hkind.trans (by rw [hsource n hkind])) hnamed
        | assist p location => rw [hkind] at hexec; exact hexec
        | poolOffer n p => rw [hkind] at hexec; exact hexec

end Sys2Proof.Machine
end

/-!
PROOFS. STAND_DOWN (R53, R92).
-/
section

namespace Sys2Proof.Machine

/-! ### The slot through the Board's operations (R174) -/

theorem Link.SameSlot.refl (k : Link) : k.SameSlot k := ⟨rfl, rfl, rfl⟩

theorem State.tell_sameSlot (n : Notice) (s : State) : s.link.SameSlot (s.tell n).link := by
  unfold State.tell
  split
  · exact (State.post_sameSlot n s).trans (Link.raise_posts .holdLost _).2
  · exact State.post_sameSlot n s

theorem State.failGesture_sameSlot (c : GestureCause) (s : State) : s.link.SameSlot (s.failGesture c).link := by
  unfold State.failGesture
  split
  · exact .refl _
  · exact State.post_sameSlot _ { s with board := { s.board with gesture := none } }

theorem State.leavePost_sameSlot (s : State) : s.link.SameSlot s.leavePost.link := by
  unfold State.leavePost
  split
  · exact State.tell_sameSlot _ { s with holds := { s.holds with posture := _ } }
  · exact .refl _

/-! ### The Board emptied (R92) -/

/-- R92: the Board emptied, before the gesture: an empty Board presents nothing. -/
theorem State.clearBoard_link (s : State) :
    s.clearBoard.link =
      (match s.board.gesture with
       | some g => if g.request.ofBoard then (s.failGesture .itemGone).link else s.link
       | none => s.link) := by
  unfold State.clearBoard
  rw [State.present_link]
  cases hgesture : s.board.gesture with
  | none => rfl
  | some g =>
    cases hboard : g.request.ofBoard with
    | false => simp [hboard, nextPresented?, firstItem, firstOfLevel]
    | true =>
      simp [hboard, hgesture, State.failGesture, nextPresented?, firstItem, firstOfLevel, State.post]

theorem State.failGesture_link_congr {s t : State} (hgesture : t.board.gesture = s.board.gesture)
    (hlink : t.link = s.link) (hnow : t.now = s.now) (c : GestureCause) :
    (t.failGesture c).link = (s.failGesture c).link := by
  unfold State.failGesture
  rw [hgesture]
  split
  · exact hlink
  · simp only [State.post, hlink, hnow]

/-- The cause with which STAND_DOWN ends a gesture: the Board's end with their items (R92), the Engine's with the
posture (R53). -/
def GestureRequest.standDownCause (r : GestureRequest) : GestureCause :=
  if r = .acceptItem then .itemGone else .standDown

theorem GestureRequest.ofBoard_iff (r : GestureRequest) : r.ofBoard = true ↔ r = .acceptItem := by
  cases r <;> simp [GestureRequest.ofBoard]

/-- R53, R92: the Board emptied and the Engine's gesture ended: a gesture ends once, by the Board or by the Engine. -/
theorem State.gestureEnded_link {s : State} {g : Gesture} (hgesture : s.board.gesture = some g) :
    s.clearBoard.endEngineGesture.link = (s.failGesture g.request.standDownCause).link := by
  have hleft : s.clearBoard.board.gesture = s.board.gesture.filter (!·.request.ofBoard) := by
    rw [State.clearBoard_frame]
  have hlink := State.clearBoard_link s
  unfold State.endEngineGesture GestureRequest.standDownCause
  rw [hleft, hgesture]
  rw [hgesture] at hlink
  cases hboard : g.request.ofBoard with
  | true =>
    rw [if_pos ((GestureRequest.ofBoard_iff _).mp hboard)]
    simpa [Option.filter, hboard] using hlink
  | false =>
    have hrequest : g.request ≠ .acceptItem := by
      rw [ne_eq, ← GestureRequest.ofBoard_iff, hboard]
      decide
    rw [if_neg hrequest]
    simp only [Option.filter, hboard, Bool.not_false, if_true, Bool.false_eq_true, if_false]
    exact State.failGesture_link_congr (by rw [hleft, hgesture]; simp [Option.filter, hboard])
      (by simpa [hboard] using hlink) (by rw [State.clearBoard_frame]) _

theorem State.gestureEnded_link_none {s : State} (hgesture : s.board.gesture = none) :
    s.clearBoard.endEngineGesture.link = s.link := by
  have hleft : s.clearBoard.board.gesture = none := by
    rw [State.clearBoard_frame, hgesture]
    rfl
  have hlink := State.clearBoard_link s
  rw [hgesture] at hlink
  unfold State.endEngineGesture
  rw [hleft]
  exact hlink

theorem State.standDown_sameSlot (s : State) : s.link.SameSlot s.standDown.1.link := by
  refine (State.leavePost_sameSlot s).trans ?_
  show s.leavePost.link.SameSlot s.leavePost.clearBoard.endEngineGesture.link
  cases hgesture : s.leavePost.board.gesture with
  | none => rw [State.gestureEnded_link_none hgesture]; exact .refl _
  | some g => rw [State.gestureEnded_link hgesture]; exact State.failGesture_sameSlot _ _

/-- R53, R92: what STAND_DOWN posts with room: the posture, and the end of a gesture. -/
theorem State.standDown_posts {s : State} (hroom : s.link.notices.length < 31) :
    s.link.Posts
      ((if s.holds.posture = .active then [.posture s.postureDown] else []) ++
        s.board.gesture.toList.map fun g => .gestureFailed g.loader g.request g.request.standDownCause)
      0 s.standDown.1.link := by
  have hpost : s.link.Fills (if s.holds.posture = .active then [.posture s.postureDown] else []) 0 s.leavePost.link := by
    unfold State.leavePost State.postureDown
    split
    · simp only [List.isEmpty_iff]
      exact State.tell_fills (s := { s with holds := { s.holds with posture := _ } }) (by exact Nat.lt_succ_of_lt hroom)
    · exact .refl _
  have hone : (if s.holds.posture = .active then [Notice.posture s.postureDown] else []).length ≤ 1 := by
    split <;> simp
  have hlength := hpost.2
  have hboard : s.leavePost.board = s.board := by rw [State.leavePost_frame]
  refine (hpost.then ?_).1
  show s.leavePost.link.Fills _ 0 s.leavePost.clearBoard.endEngineGesture.link
  cases hgesture : s.board.gesture with
  | none => rw [State.gestureEnded_link_none (by rw [hboard, hgesture])]; exact .refl _
  | some g =>
    rw [State.gestureEnded_link (by rw [hboard, hgesture])]
    exact State.failGesture_fills (by rw [hboard, hgesture]) _ (by omega)

/-- Settles O39: the posture, the Board and the gesture, and what is posted of them with room. -/
theorem standDownEmptiesTheBoard : Obligations.StandDownEmptiesTheBoard := by
  intro s tag h posture
  obtain ⟨k, hrequest, hanswers, hbeside, -, -⟩ :=
    (h.admits 0x1F).carried tag State.standDown (State.standDown_sameSlot s.taken)
  refine ⟨k, ?_, hanswers, fun hroom => ⟨hanswers, ?_⟩⟩
  · show Host.Outcome.next (s.request 0x1F tag true (some .chair) State.standDown) = _
    rw [hrequest, State.standDown_frame]
    rfl
  · have hposts : s.taken.link.Posts
        ((if s.holds.posture = .active then [.posture posture] else []) ++
          s.board.gesture.toList.map fun g => .gestureFailed g.loader g.request g.request.standDownCause)
        0 s.taken.standDown.1.link := State.standDown_posts (s := s.taken) hroom
    have hall := (s.taken_beside.trans hposts.1).trans hbeside
    simp only [List.nil_append, List.append_nil] at hall
    cases hgesture : s.board.gesture with
    | none => simpa [hgesture] using hall
    | some g => simpa [hgesture, GestureRequest.standDownCause] using hall

end Sys2Proof.Machine
end

/-!
PROOFS. The checks of the chair's requests, in their order (R51, R55, R59, R93).
-/
section

namespace Sys2Proof.Machine

/-! ### Ordered checks -/

/-- A test decides ordered checks: it gives the code of the first that fails, and none when all pass. -/
def Decides (checks : List (Prop × ResultCode)) (r : Option ResultCode) : Prop :=
  (∀ code, FirstFails checks code → r = some code) ∧ ((∀ c ∈ checks, ¬ c.1) → r = none)

theorem firstFails_append {α : Type} {a b : List (Prop × α)} {code : α} :
    FirstFails (a ++ b) code ↔ FirstFails a code ∨ ((∀ c ∈ a, ¬ c.1) ∧ FirstFails b code) := by
  induction a with
  | nil => simp [FirstFails]
  | cons c rest ih =>
    simp only [List.cons_append, FirstFails, ih, List.forall_mem_cons]
    tauto

theorem Decides.nil : Decides [] none := ⟨fun _ h => h.elim, fun _ => rfl⟩

theorem decides_failIf {p : Prop} {b : Bool} {c : ResultCode} (h : b = true ↔ p) : Decides [(p, c)] (failIf b c) := by
  refine ⟨fun code hfails => ?_, fun hpass => ?_⟩
  · rcases hfails with ⟨hp, rfl⟩ | ⟨-, hnone⟩
    · simp [failIf, h.mpr hp]
    · exact hnone.elim
  · have hb : b = false := by
      rw [← Bool.not_eq_true, h]
      exact hpass _ (List.mem_singleton_self _)
    simp [failIf, hb]

theorem Decides.append {a b : List (Prop × ResultCode)} {r r' : Option ResultCode} (ha : Decides a r)
    (hb : Decides b r') : Decides (a ++ b) (r.or r') := by
  refine ⟨fun code hfails => ?_, fun hpass => ?_⟩
  · rcases firstFails_append.mp hfails with hfirst | ⟨hpass, hsecond⟩
    · rw [ha.1 code hfirst]
      rfl
    · rw [ha.2 hpass, hb.1 code hsecond]
      rfl
  · rw [ha.2 fun c hc => hpass c (List.mem_append_left _ hc), hb.2 fun c hc => hpass c (List.mem_append_right _ hc)]
    rfl

theorem firstFailure_cons (x : Option ResultCode) (rest : List (Option ResultCode)) :
    firstFailure (x :: rest) = x.or (firstFailure rest) := by
  cases x <;> rfl

/-- A test joins those that follow it. -/
theorem Decides.join {a b : List (Prop × ResultCode)} {r : Option ResultCode} {rest : List (Option ResultCode)}
    (ha : Decides a r) (hb : Decides b (firstFailure rest)) : Decides (a ++ b) (firstFailure (r :: rest)) := by
  rw [firstFailure_cons]
  exact ha.append hb

theorem Decides.last {a : List (Prop × ResultCode)} {r : Option ResultCode} (ha : Decides a r) :
    Decides a (firstFailure [r]) := by
  have hnil : Decides [] (firstFailure []) := .nil
  simpa using ha.join hnil

/-! ### The model's checks (R51, R55, R60) -/

section checks
variable {s : State}

theorem State.postureCheck_decides :
    Decides [(s.holds.posture = .vacant, .vacant), (s.holds.posture = .standingDown, .standingDown)] s.postureCheck := by
  unfold State.postureCheck
  cases s.holds.posture <;> simp [Decides, FirstFails, Posture.refusal]

theorem State.chainCheck_decides : Decides [(s.discrete.stopchain.active = false, .chainOpen)] s.chainCheck :=
  decides_failIf (by simp [State.chainClosed])

theorem State.roomCheck_decides : Decides [(6 ≤ s.holds.entries.length, .tableFull)] s.roomCheck :=
  decides_failIf decide_eq_true_iff

theorem State.driveCheck_decides (loader : Nat) (m : Mode) :
    Decides [(m = .drive ∧ ∃ e ∈ s.holds.entries, e.mode = .drive ∧ e.loader ≠ loader, .driveBusy)]
      (s.driveCheck loader m) :=
  decides_failIf (by simp [State.otherDrive])

theorem State.gestureCheck_decides (m : Mode) :
    Decides [(m = .drive ∧ s.board.gesture ≠ none, .busy)] (s.gestureCheck m) :=
  decides_failIf (by simp [Option.isSome_iff_ne_none])

end checks

end Sys2Proof.Machine
end

/-!
PROOFS. The ways an item leaves the Board, and the checks of the operator's answers (R84, R89 to R91, R93 to R96).
-/
section

namespace Sys2Proof.Machine

/-! ### Deadlines and frames (R90, R91) -/

theorem State.exec_itemDeadline {s : State} {loader : Byte} {i : Item} (hchair : s.activeAs .chair = true)
    (hitem : s.item? loader.toNat = some i) :
    exec (.itemDeadlineExpiry loader) s =
      .next ((s.reach i.deadline).removeItem loader.toNat (.gone i.kind.expiryCause)) := by
  show execItemDeadlineExpiry loader s = _
  simp [execItemDeadlineExpiry, hchair, hitem]

theorem State.TakesAsChair.withdraw {s : State} {f : RxFrame} (h : s.TakesAsChair f) (hkind : f.kind = .withdraw) :
    exec .receptionComplete s = .next (s.received.withdrawAtBoard f) := by
  rw [h.exec_receptionComplete, State.deliverChair, hkind]

/-! ### The operator's answers (R93 to R96) -/

/-- R93: the code with which the presented item is not the one named. -/
def refusalOf : Except ResultCode Item → Option ResultCode
  | .error code => some code
  | .ok _ => none

theorem State.presentedFor_decides (loader : Byte) (s : State) :
    Decides
      [(s.presented? = none, .noItem), (∀ i, s.presented? = some i → i.loader ≠ loader.toNat, .notPresented)]
      (refusalOf (s.presentedFor loader)) := by
  unfold State.presentedFor
  cases s.presented? with
  | none => simp [Decides, FirstFails, refusalOf]
  | some i => by_cases hloader : i.loader = loader.toNat <;> simp [Decides, FirstFails, refusalOf, hloader]

theorem State.presentedFor_of {s : State} {loader : Byte} {i : Item} (hpresented : s.presented? = some i)
    (hloader : i.loader = loader.toNat) : s.presentedFor loader = .ok i := by
  simp [State.presentedFor, hpresented, hloader]

theorem isStation_decides (loader : Byte) :
    Decides [(isStation loader = false, .badValue)] (failIf (!isStation loader) .badValue) :=
  decides_failIf (by simp)

section answers
variable {s : State} {loader : Byte}

/-- R96: the checks of DECLINE_ITEM and DISMISS_ITEM. -/
theorem State.itemAnswer_refused {code : ResultCode}
    (h : (failIf (!isStation loader) .badValue).or (refusalOf (s.presentedFor loader)) = some code) :
    s.declineItem loader = (s, { code }) ∧ s.dismissItem loader = (s, { code }) := by
  cases hstation : isStation loader with
  | false =>
    have hcode : ResultCode.badValue = code := by simpa [failIf, hstation] using h
    simp [State.declineItem, State.dismissItem, hstation, hcode]
  | true =>
    cases hfor : s.presentedFor loader with
    | error c =>
      have hcode : c = code := by simpa [failIf, hstation, hfor, refusalOf] using h
      simp [State.declineItem, State.dismissItem, hstation, hfor, hcode]
    | ok i => simp [failIf, hstation, hfor, refusalOf] at h

end answers

/-- R93: the checks of ACCEPT_ITEM, before and beside the item. -/
def acceptTests (loader : Byte) (s : State) : Option ResultCode :=
  (firstFailure [failIf (!isStation loader) .badValue, s.postureCheck, s.chainCheck]).or
    (refusalOf (s.presentedFor loader))

theorem State.acceptItem_refused {s : State} {loader : Byte} {code : ResultCode}
    (h : acceptTests loader s = some code) : s.acceptItem loader = (s, { code }) := by
  unfold acceptTests at h
  unfold State.acceptItem
  cases hfirst : firstFailure [failIf (!isStation loader) .badValue, s.postureCheck, s.chainCheck] with
  | some c =>
    rw [hfirst] at h
    cases h
    rfl
  | none =>
    rw [hfirst] at h
    cases hfor : s.presentedFor loader with
    | error c =>
      rw [hfor] at h
      cases h
      rfl
    | ok i =>
      rw [hfor] at h
      cases h

theorem State.acceptItem_passed {s : State} {loader : Byte} {i : Item} (h : acceptTests loader s = none)
    (hpresented : s.presented? = some i) (hloader : i.loader = loader.toNat) :
    s.acceptItem loader = s.answer (s.itemChecks i)
      (match i.mode with
       | .supervise => s.takeItem i
       | .drive => s.armGesture .acceptItem i.loader) := by
  obtain ⟨hfirst, -⟩ := Option.or_eq_none_iff.mp h
  simp only [State.acceptItem, hfirst, State.presentedFor_of hpresented hloader] <;> rfl

/-- R60, R92, R94, R95: an entry is added for a loader, whose item leaves the Board without a notice of its own. -/
theorem State.addClaimed_spec {s : State} (hactive : s.active = true) (hclass : s.liu.classA.length < 8)
    (loader : Nat) (hroom : s.link.notices.length + (s.board.gestureFor? loader).toList.length < 32)
    (kind : OutKind) (m : Mode) (epoch : Epoch) :
    let t := (s.addEntry loader kind m epoch).removeItem loader .silent
    (s.withoutItem loader).EntryAdded loader kind m epoch t ∧
      s.link.Fills (s.leavingNotices loader) (s.leavingFlags loader) t.link := by
  intro t
  obtain ⟨⟨hframe, hjoined⟩, hlink⟩ := State.addEntry_spec hactive hclass loader kind m epoch
  have ht : t = (s.addEntry loader kind m epoch).removeItem loader .silent := rfl
  generalize s.addEntry loader kind m epoch = u at hframe hjoined hlink ht
  have hboard : u.board = s.board := by rw [hframe]
  obtain ⟨k, hremoved, hfills⟩ := State.removeSilently_spec (s := u) loader (by rw [hlink, hboard]; exact hroom)
  have hdiscrete : u.discrete = s.discrete := by rw [hframe]
  have hleft : (u.withoutItem loader).board = (s.withoutItem loader).board ∧
      (u.withoutItem loader).discrete = (s.withoutItem loader).discrete := by
    unfold State.withoutItem State.item?
    rw [hboard]
    split
    · exact ⟨hboard, hdiscrete⟩
    · exact ⟨rfl, by rw [hdiscrete]⟩
  have hnotices : u.leavingNotices loader = s.leavingNotices loader := by
    unfold State.leavingNotices State.item?
    rw [hboard]
  have hflags : u.leavingFlags loader = s.leavingFlags loader := by
    unfold State.leavingFlags State.item?
    rw [hboard]
  rw [ht, hremoved]
  rw [hnotices, hflags, hlink] at hfills
  refine ⟨?_, hfills⟩
  rw [State.withoutItem_frame loader u, State.withoutItem_frame loader s, hleft.1, hleft.2, hframe]
  exact ⟨rfl, hjoined⟩

theorem State.withoutItem_reach (loader due : Nat) (s : State) :
    (s.reach due).withoutItem loader = { s.withoutItem loader with now := max s.now due } := by
  unfold State.withoutItem
  by_cases hitem : s.item? loader = none
  · rw [if_pos hitem, if_pos (by exact hitem)]
    rfl
  · rw [if_neg hitem, if_neg (by exact hitem)]
    rfl

theorem State.withoutItem_taken (loader : Nat) (s : State) :
    s.taken.withoutItem loader = { s.withoutItem loader with link := s.taken.link } := by
  unfold State.withoutItem
  by_cases hitem : s.item? loader = none
  · rw [if_pos hitem, if_pos (by exact hitem)]
    rfl
  · rw [if_neg hitem, if_neg (by exact hitem)]
    rfl

theorem State.EntryAdded.withLink {s t : State} {loader : Nat} {kind : OutKind} {m : Mode} {epoch : Epoch}
    (h : s.EntryAdded loader kind m epoch t) (k : Link) : s.EntryAdded loader kind m epoch { t with link := k } := by
  obtain ⟨hframe, hjoined⟩ := h
  exact ⟨congrArg (fun u : State => { u with link := k }) hframe, hjoined⟩

/-- R60, R94: a request that adds an entry, whose loader's item leaves the Board. -/
theorem State.Admits.adds {kind : Byte} {role : RequestRole} {s : State} (h : s.Admits kind role) (tag : Byte)
    (hactive : s.active = true) (hclass : s.liu.classA.length < 8) (hroom : s.link.notices.length < 31)
    {act : State → State × Answer} {l : Nat} {out : OutKind} {m : Mode} {epoch : Epoch}
    (hact : act s.taken = ((s.taken.addEntry l out m epoch).removeItem l .silent, { code := .ok })) :
    ∃ t, s.request kind tag true role act = t ∧ (s.withoutItem l).EntryAdded l out m epoch t ∧
      s.link.Replies kind tag .ok [] (s.leavingNotices l) (s.leavingFlags l) t.link := by
  obtain ⟨hadded, hposts, -⟩ := State.addClaimed_spec (s := s.taken) hactive hclass l
    (Nat.add_lt_add_of_lt_of_le hroom (Board.gestureFor?_toList_length l _)) out m epoch
  obtain ⟨k, hrequest, hreplies⟩ := h.posting tag hact hposts
  rw [State.withoutItem_taken] at hadded
  exact ⟨_, hrequest, hadded.withLink k, hreplies⟩

/-- R96: DECLINE_ITEM of a presented named offer. -/
theorem State.declineItem_named {s : State} {loader : Byte} {i : Item} {n : Nat} (hstation : isStation loader = true)
    (hpresented : s.presented? = some i) (hloader : i.loader = loader.toNat) (hkind : i.kind = .namedOffer n) :
    s.declineItem loader = ((s.declineTo n i).removeItem i.loader .silent, { code := .ok }) ∧
      s.dismissItem loader = (s, { code := .wrongKind }) := by
  simp [State.declineItem, State.dismissItem, hstation, State.presentedFor_of hpresented hloader, hkind]

/-- R96: DISMISS_ITEM of a presented pool offer or assist call. -/
theorem State.dismissItem_other {s : State} {loader : Byte} {i : Item} (hstation : isStation loader = true)
    (hpresented : s.presented? = some i) (hloader : i.loader = loader.toNat) (hkind : ∀ n, i.kind ≠ .namedOffer n) :
    s.dismissItem loader = (s.removeItem i.loader .silent, { code := .ok }) ∧
      s.declineItem loader = (s, { code := .wrongKind }) := by
  cases hi : i.kind with
  | namedOffer n => exact absurd hi (hkind n)
  | assist p location =>
    simp [State.declineItem, State.dismissItem, hstation, State.presentedFor_of hpresented hloader, hi]
  | poolOffer n p =>
    simp [State.declineItem, State.dismissItem, hstation, State.presentedFor_of hpresented hloader, hi]

/-- R93: the tests of ACCEPT_ITEM before the item's own decide the checks up to NOT_PRESENTED. -/
theorem acceptTests_decides (loader : Byte) (s : State) :
    Decides
      ([(isStation loader = false, .badValue), (s.holds.posture = .vacant, .vacant),
          (s.holds.posture = .standingDown, .standingDown), (s.discrete.stopchain.active = false, .chainOpen)] ++
        [(s.presented? = none, .noItem), (∀ i, s.presented? = some i → i.loader ≠ loader.toNat, .notPresented)])
      (acceptTests loader s) :=
  Decides.append
    ((isStation_decides loader).join (State.postureCheck_decides.join State.chainCheck_decides.last))
    (s.presentedFor_decides loader)

/-- R93: the checks of the presented item; a boarded loader is not held, so that every DRIVE entry is another's. -/
theorem State.itemChecks_decides {s : State} {i : Item} (hs : s.TablesSound) (hpresented : s.presented? = some i) :
    Decides
      [(6 ≤ s.holds.entries.length, .tableFull),
        ((∃ j, s.presented? = some j ∧ j.mode = .drive) ∧ ∃ e ∈ s.holds.entries, e.mode = .drive, .driveBusy),
        ((∃ j, s.presented? = some j ∧ j.mode = .drive) ∧ s.board.gesture ≠ none, .busy),
        ((∃ j, s.presented? = some j ∧ j.mode = .supervise) ∧ s.discrete.seat.active = false, .seatOpen)]
      (s.itemChecks i) := by
  obtain ⟨-, -, hapart, -⟩ := hs
  have hother : ∀ e ∈ s.holds.entries, e.loader ≠ i.loader := fun e he =>
    hapart e he i (State.presented?_some hpresented).1
  have hshows (m : Mode) : (∃ j, s.presented? = some j ∧ j.mode = m) ↔ i.mode = m := by simp [hpresented]
  simp only [hshows]
  have hdrive : Decides [(i.mode = .drive ∧ ∃ e ∈ s.holds.entries, e.mode = .drive, .driveBusy)]
      (s.driveCheck i.loader i.mode) := by
    refine decides_failIf ?_
    rw [Bool.and_eq_true, decide_eq_true_iff]
    refine and_congr_right fun _ => ?_
    simp only [State.otherDrive, List.any_eq_true, decide_eq_true_eq]
    exact exists_congr fun e => and_congr_right fun he => and_iff_left (hother e he)
  have hseat : Decides [(i.mode = .supervise ∧ s.discrete.seat.active = false, .seatOpen)]
      (failIf (decide (i.mode = .supervise) && !s.discrete.seat.active) .seatOpen) := decides_failIf (by simp)
  exact State.roomCheck_decides.join (hdrive.join ((State.gestureCheck_decides i.mode).join hseat.last))

/-- Settles O48: each way in which an item leaves is a removal, with its farewell. -/
theorem anItemLeavesTheBoard : Obligations.AnItemLeavesTheBoard := by
  refine ⟨fun s loader i hchair hitem hroom => ?_, fun s f i h hitem hroom => ⟨fun hkind he => ?_, fun hkind hoffering => ?_,
    fun hkind hoffering => ?_⟩, fun s tag loader i h hstation hpresented hloader hroom hclass => ?_, fun s tag loader h => ?_⟩
  · obtain ⟨k, hremoved, hposts, -⟩ := State.removeItem_spec (s := s.reach i.deadline) (w := .gone i.kind.expiryCause)
      hitem (by show s.link.notices.length + 1 < 31; omega)
    refine ⟨k, ?_, ?_⟩
    · rw [State.exec_itemDeadline hchair hitem, hremoved, State.withoutItem_reach]
    · rcases i with ⟨l, kind, m, epoch, deadline, presented⟩
      cases kind <;> exact hposts
  · obtain ⟨k, hremoved, hposts, -⟩ := State.removeItem_spec (s := s.received) (w := .granted (f.at 0).toNat) hitem
      (by show s.link.notices.length + 1 < 31; omega)
    refine ⟨k, ?_, hposts⟩
    have hboarded : s.received.isBoarded f.loader = true := Option.isSome_iff_exists.mpr ⟨i, hitem⟩
    rw [h.grant hkind, State.chairGrant, show s.received.entry? f.loader = none from he, ← hremoved]
    exact congrArg _ (if_pos hboarded)
  · obtain ⟨k, hremoved, hposts, -⟩ := State.removeItem_spec (s := s.received) (w := .gone .withdrawn) hitem
      (by show s.link.notices.length + 1 < 31; omega)
    refine ⟨k, ?_, hposts⟩
    rw [h.withdraw hkind, State.withdrawAtBoard, show s.received.item? f.loader = some i from hitem, ← hremoved]
    exact congrArg _ (if_pos hoffering)
  · rw [h.withdraw hkind, State.withdrawAtBoard, show s.received.item? f.loader = some i from hitem]
    exact congrArg _ (if_neg hoffering)
  · intro left notices raised
    have hactive : s.taken.active = true := (State.activeAs_iff.mp h.activeAs).1
    have hleaves : s.link.notices.length + (s.board.gestureFor? i.loader).toList.length < 32 :=
      Nat.lt_succ_of_lt (Nat.add_lt_add_of_lt_of_le hroom (Board.gestureFor?_toList_length i.loader s.board))
    have removes := State.removeSilently_spec (s := s.taken) i.loader hleaves
    refine ⟨fun n hkind => ?_, fun hkind => ?_, fun hmode hposture hchain hseat htable => ?_⟩
    · obtain ⟨hdecline, hdismiss⟩ := State.declineItem_named (s := s.taken) hstation hpresented hloader hkind
      refine ⟨?_, ?_⟩
      · obtain ⟨q, hgive, hjoined⟩ := State.give_room (s := s.taken)
          (f := TxFrame.make .decline n i.loader i.epoch [DeclineReason.operator.code]) hactive (by exact hclass)
        rw [State.declineTo, hgive] at hdecline
        obtain ⟨k, hremoved, hposts, -⟩ := State.removeSilently_spec (s := { s.taken with liu := q }) i.loader
          hleaves
        rw [hremoved] at hdecline
        obtain ⟨k', hrequest, hreplies⟩ := (h.admits 0x1D).posting tag hdecline hposts
        refine ⟨k', q, ?_, hjoined, hreplies⟩
        show Host.Outcome.next (s.request 0x1D tag true (some .chair) (State.declineItem loader)) = _
        rw [hrequest, State.withoutItem_beside i.loader s.taken q s.taken.link, State.withoutItem_taken]
      · obtain ⟨k, hrequest, hreplies⟩ := (h.admits 0x1E).answers tag hdismiss
        exact ⟨k, congrArg _ hrequest, hreplies⟩
    · obtain ⟨hdismiss, hdecline⟩ := State.dismissItem_other (s := s.taken) hstation hpresented hloader hkind
      refine ⟨?_, ?_⟩
      · obtain ⟨k, hremoved, hposts, -⟩ := removes
        rw [hremoved] at hdismiss
        obtain ⟨k', hrequest, hreplies⟩ := (h.admits 0x1E).posting tag hdismiss hposts
        refine ⟨k', ?_, hreplies⟩
        show Host.Outcome.next (s.request 0x1E tag true (some .chair) (State.dismissItem loader)) = _
        rw [hrequest, State.withoutItem_taken]
      · obtain ⟨k, hrequest, hreplies⟩ := (h.admits 0x1D).answers tag hdecline
        exact ⟨k, congrArg _ hrequest, hreplies⟩
    · have htests : acceptTests loader s.taken = none := (acceptTests_decides loader s.taken).2 (by
        simp [hstation, hposture, hchain, hpresented, hloader,
          show s.taken.holds = s.holds from rfl, show s.taken.discrete = s.discrete from rfl,
          show s.taken.presented? = s.presented? from rfl])
      have hchecks : s.taken.itemChecks i = none := by
        simp [State.itemChecks, firstFailure, failIf, State.roomCheck, State.driveCheck, State.gestureCheck, hmode,
          Config.tableSize, show s.taken.discrete = s.discrete from rfl, hseat,
          show ¬ 6 ≤ s.taken.holds.entries.length from Nat.not_le.mpr htable]
      have haccept := State.acceptItem_passed (s := s.taken) htests hpresented hloader
      rw [hchecks, hmode] at haccept
      unfold State.answer State.takeItem at haccept
      obtain ⟨t, hrequest, hadded, hreplies⟩ := (h.admits 0x1C).adds tag hactive hclass (Nat.lt_succ_of_lt hroom) haccept
      refine ⟨t, congrArg _ hrequest, ?_, hreplies⟩
      rw [hmode] at hadded
      generalize i.kind = kind at hadded ⊢
      cases kind <;> exact hadded
  · intro refused value named shows
    refine ⟨fun code hfails => ?_, fun code hs hfails => ?_⟩
    · have htest := ((isStation_decides loader).append (State.presentedFor_decides loader s.taken)).1 code hfails
      obtain ⟨hdecline, hdismiss⟩ := State.itemAnswer_refused htest
      obtain ⟨k, hrequest, hreplies⟩ := (h.admits 0x1D).answers tag hdecline
      obtain ⟨k', hrequest', hreplies'⟩ := (h.admits 0x1E).answers tag hdismiss
      exact ⟨⟨k, congrArg _ hrequest, hreplies⟩, ⟨k', congrArg _ hrequest', hreplies'⟩⟩
    · have haccept : s.taken.acceptItem loader = (s.taken, { code }) := by
        rcases firstFails_append.mp hfails with hfirst | ⟨hpass, hitem⟩
        · exact State.acceptItem_refused ((acceptTests_decides loader s.taken).1 code hfirst)
        · have hnone : acceptTests loader s.taken = none := (acceptTests_decides loader s.taken).2 hpass
          cases hfor : s.taken.presentedFor loader with
          | error c =>
            have hrefusal := (Option.or_eq_none_iff.mp hnone).2
            rw [hfor] at hrefusal
            cases hrefusal
          | ok i =>
            obtain ⟨hpresented, hloader⟩ := State.presentedFor_ok hfor
            rw [State.acceptItem_passed hnone hpresented hloader,
              (State.itemChecks_decides (s := s.taken) hs hpresented).1 code hitem]
            rfl
      obtain ⟨k, hrequest, hreplies⟩ := (h.admits 0x1C).answers tag haccept
      exact ⟨k, congrArg _ hrequest, hreplies⟩

end Sys2Proof.Machine
end

/-!
PROOFS. CLAIM, SEIZE and SET_MODE at a chair: their checks in order, and what passes them (R59 to R61, R63, R67).
-/
section

namespace Sys2Proof.Machine

/-! ### The value check (R59) -/

theorem State.badLoader_iff {loader : Byte} {s : State} :
    s.badLoader loader = true ↔ ¬ (isStation loader = true ∧ loader.toNat ≠ s.station) := by
  cases h : isStation loader <;> simp [State.badLoader, h]

theorem modeOf?_eq_some {b : Byte} {m : Mode} : modeOf? b = some m ↔ b = modeCode m := by
  unfold modeOf?
  by_cases h1 : b = 1
  · rw [if_pos h1, h1]
    cases m <;> simp [modeCode]
  · rw [if_neg h1]
    by_cases h2 : b = 2
    · rw [if_pos h2, h2]
      cases m <;> simp [modeCode]
    · rw [if_neg h2]
      cases m
      · exact ⟨nofun, fun h => absurd h h1⟩
      · exact ⟨nofun, fun h => absurd h h2⟩

theorem modeOf?_isSome {b : Byte} : (modeOf? b).isSome = true ↔ b = 1 ∨ b = 2 := by
  rw [Option.isSome_iff_exists]
  simp only [modeOf?_eq_some]
  constructor
  · rintro ⟨m, rfl⟩
    cases m
    · exact .inl rfl
    · exact .inr rfl
  · rintro (h | h)
    · exact ⟨.drive, h⟩
    · exact ⟨.supervise, h⟩

theorem modeOf?_drive {b : Byte} {m : Mode} (h : modeOf? b = some m) : m = .drive ↔ b = 1 := by
  rw [modeOf?_eq_some.mp h]
  cases m <;> simp [modeCode]

theorem modeOf?_supervise {b : Byte} {m : Mode} (h : modeOf? b = some m) : m = .supervise ↔ b = 2 := by
  rw [modeOf?_eq_some.mp h]
  cases m <;> simp [modeCode]

section value
variable {s : State} {loader mode : Byte}

/-- R59: the value check of CLAIM, SET_MODE and SEIZE passes with a mode. -/
theorem value_passes
    (h : ¬ ¬ (isStation loader = true ∧ loader.toNat ≠ s.station ∧ (mode = 1 ∨ mode = 2))) :
    s.badLoader loader = false ∧ ∃ m, modeOf? mode = some m := by
  obtain ⟨hstation, hother, hmode⟩ := not_not.mp h
  exact ⟨State.badLoader_eq_false hstation hother, Option.isSome_iff_exists.mp (modeOf?_isSome.mpr hmode)⟩

theorem value_fails
    (h : ¬ (isStation loader = true ∧ loader.toNat ≠ s.station ∧ (mode = 1 ∨ mode = 2))) :
    s.claim loader mode = (s, { code := .badValue }) ∧ s.seize loader mode = (s, { code := .badValue }) ∧
      s.setMode loader mode = (s, { code := .badValue }) := by
  cases hbad : s.badLoader loader with
  | true => simp [State.claim, State.seize, State.setMode, hbad]
  | false =>
    cases hmode : modeOf? mode with
    | none => simp [State.claim, State.seize, State.setMode, hbad, hmode]
    | some m =>
      refine absurd ?_ h
      have hgood : isStation loader = true ∧ loader.toNat ≠ s.station := by
        by_contra hnot
        rw [State.badLoader_iff.mpr hnot] at hbad
        cases hbad
      exact ⟨hgood.1, hgood.2, modeOf?_isSome.mp (by rw [hmode]; rfl)⟩

/-- R60, R61: a CLAIM with a good value, by the table. -/
theorem State.claim_new {m : Mode} (hbad : s.badLoader loader = false) (hmode : modeOf? mode = some m)
    (he : s.entry? loader.toNat = none) : s.claim loader mode = s.claimNew loader.toNat m := by
  simp only [State.claim, hbad, hmode, he]

theorem State.claim_held {m : Mode} {e : Entry} (hbad : s.badLoader loader = false) (hmode : modeOf? mode = some m)
    (he : s.entry? loader.toNat = some e) :
    s.claim loader mode = if e.phase = .suspended then s.reclaim e m else (s, { code := .alreadyHeld }) := by
  simp only [State.claim, hbad, hmode, he]

theorem State.seize_eq {m : Mode} (hbad : s.badLoader loader = false) (hmode : modeOf? mode = some m) :
    s.seize loader mode =
      s.answer
        (firstFailure [failIf (!s.settings.senior) .notSenior, s.postureCheck, s.chainCheck,
          failIf (s.isHeld loader.toNat) .alreadyHeld, s.roomCheck, s.driveCheck loader.toNat m])
        (s.addClaimed loader.toNat .seize m) := by
  simp only [State.seize, hbad, hmode]

theorem State.setMode_new {m : Mode} (hbad : s.badLoader loader = false) (hmode : modeOf? mode = some m)
    (he : s.entry? loader.toNat = none) : s.setMode loader mode = (s, { code := .notHeld }) := by
  simp only [State.setMode, hbad, hmode, he]

theorem State.setMode_held {m : Mode} {e : Entry} (hbad : s.badLoader loader = false) (hmode : modeOf? mode = some m)
    (he : s.entry? loader.toNat = some e) : s.setMode loader mode = s.setModeOf e m := by
  simp only [State.setMode, hbad, hmode, he]

end value

/-! ### CLAIM and SEIZE of a loader that is not held (R60, R67) -/

section checks
variable {s : State} {loader mode : Byte} {m : Mode}

/-- R51, R55, R60: the checks of a CLAIM of a new loader. -/
theorem State.claimNew_decides (hmode : modeOf? mode = some m) (l : Nat) :
    Decides
      ([(s.holds.posture = .vacant, .vacant), (s.holds.posture = .standingDown, .standingDown),
          (s.discrete.stopchain.active = false, .chainOpen)] ++
        [(6 ≤ s.holds.entries.length, .tableFull),
          (mode = 1 ∧ ∃ e ∈ s.holds.entries, e.mode = .drive ∧ e.loader ≠ l, .driveBusy),
          (mode = 1 ∧ s.board.gesture ≠ none, .busy)])
      (firstFailure [s.postureCheck, s.chainCheck, s.roomCheck, s.driveCheck l m, s.gestureCheck m]) := by
  simp only [← modeOf?_drive hmode]
  exact State.postureCheck_decides.join (State.chainCheck_decides.join (State.roomCheck_decides.join
    ((State.driveCheck_decides l m).join (State.gestureCheck_decides m).last)))

theorem State.isHeld_iff (l : Nat) : s.isHeld l = true ↔ s.entry? l ≠ none := Option.isSome_iff_ne_none

/-- R51, R55, R67: the checks of a SEIZE. -/
theorem State.seize_decides (hmode : modeOf? mode = some m) (l : Nat) :
    Decides
      ([(s.settings.senior = false, .notSenior)] ++
        [(s.holds.posture = .vacant, .vacant), (s.holds.posture = .standingDown, .standingDown),
          (s.discrete.stopchain.active = false, .chainOpen)] ++
        [(s.entry? l ≠ none, .alreadyHeld), (6 ≤ s.holds.entries.length, .tableFull),
          (mode = 1 ∧ ∃ e ∈ s.holds.entries, e.mode = .drive ∧ e.loader ≠ l, .driveBusy)])
      (firstFailure [failIf (!s.settings.senior) .notSenior, s.postureCheck, s.chainCheck,
        failIf (s.isHeld l) .alreadyHeld, s.roomCheck, s.driveCheck l m]) := by
  simp only [← modeOf?_drive hmode]
  exact (decides_failIf (by simp)).join (State.postureCheck_decides.join (State.chainCheck_decides.join
    ((decides_failIf (State.isHeld_iff l)).join (State.roomCheck_decides.join (State.driveCheck_decides l m).last))))

end checks

/-- R174: a request that fails a check changes nothing. -/
theorem State.Admits.refuses {kind : Byte} {role : RequestRole} {s : State} (h : s.Admits kind role) (tag : Byte)
    {act : State → State × Answer} {code : ResultCode} (hact : act s.taken = (s.taken, { code })) :
    ∃ k, s.request kind tag true role act = { s with link := k } ∧ s.link.Replies kind tag code [] [] 0 k :=
  h.answers tag hact

/-- Settles O40: the first failed check answers; one that passes adds an entry. -/
theorem aClaimOrASeizeIsCheckedAndCarriedOut : Obligations.AClaimOrASeizeIsCheckedAndCarriedOut := by
  intro s tag loader mode h l value suspended posture room driveBusy claimChecks seizeChecks carriedOut
  have hactive : s.active = true := (State.activeAs_iff.mp h.activeAs).1
  have claimed {code : ResultCode} (hact : s.taken.claim loader mode = (s.taken, { code })) :
      ∃ k, exec (.claim tag loader mode) s = .next { s with link := k } ∧ s.link.Replies 0x11 tag code [] [] 0 k := by
    obtain ⟨k, hrequest, hreplies⟩ := (h.admits 0x11).refuses tag hact
    exact ⟨k, congrArg _ hrequest, hreplies⟩
  have seized {code : ResultCode} (hact : s.taken.seize loader mode = (s.taken, { code })) :
      ∃ k, exec (.seize tag loader mode) s = .next { s with link := k } ∧ s.link.Replies 0x16 tag code [] [] 0 k := by
    obtain ⟨k, hrequest, hreplies⟩ := (h.admits 0x16).refuses tag hact
    exact ⟨k, congrArg _ hrequest, hreplies⟩
  refine ⟨fun hsuspended code hfails => claimed ?_, fun hmode hpass hclass hroom m hm => ?_,
    fun code hfails => seized ?_, fun hpass hclass hroom m hm => ?_⟩
  · rcases hfails with ⟨hvalue, rfl⟩ | ⟨hvalue, hfails⟩
    · exact (value_fails (s := s.taken) hvalue).1
    · obtain ⟨hbad, m, hm⟩ := value_passes (s := s.taken) hvalue
      rcases hfails with ⟨hheld, rfl⟩ | ⟨hheld, hfails⟩
      · obtain ⟨e, he⟩ := Option.ne_none_iff_exists'.mp hheld
        rw [State.claim_held (s := s.taken) hbad hm he]
        exact if_neg fun hphase => hsuspended ⟨e, he, hphase⟩
      · rw [State.claim_new (s := s.taken) hbad hm (not_not.mp hheld)]
        unfold State.claimNew
        rw [(State.claimNew_decides (s := s.taken) hm l).1 code hfails]
        rfl
  · obtain ⟨hbad, -⟩ := value_passes (s := s.taken) (hpass (value, .badValue) (by simp [claimChecks]))
    have hnew : s.entry? l = none := not_not.mp (hpass (s.entry? l ≠ none, .alreadyHeld) (by simp [claimChecks]))
    have hchecks := (State.claimNew_decides (s := s.taken) hm l).2 fun c hc =>
      hpass c (List.mem_cons_of_mem _ (List.mem_cons_of_mem _ hc))
    have hact : s.taken.claim loader mode =
        ((s.taken.addEntry l .claim m (((s.item? l).map (·.epoch)).getD 0)).removeItem l .silent, { code := .ok }) := by
      rw [State.claim_new (s := s.taken) hbad hm hnew]
      unfold State.claimNew
      rw [hchecks, (modeOf?_supervise hm).mpr hmode]
      rfl
    obtain ⟨t, hrequest, hadded, hreplies⟩ := (h.admits 0x11).adds tag hactive hclass hroom hact
    exact ⟨t, congrArg _ hrequest, hadded, hreplies⟩
  · rcases hfails with ⟨hvalue, rfl⟩ | ⟨hvalue, hfails⟩
    · exact (value_fails (s := s.taken) hvalue).2.1
    · obtain ⟨hbad, m, hm⟩ := value_passes (s := s.taken) hvalue
      rw [State.seize_eq hbad hm, (State.seize_decides (s := s.taken) hm l).1 code hfails]
      rfl
  · obtain ⟨hbad, -⟩ := value_passes (s := s.taken) (hpass (value, .badValue) (by simp [seizeChecks]))
    have hchecks := (State.seize_decides (s := s.taken) hm l).2 fun c hc => hpass c (List.mem_cons_of_mem _ hc)
    have hact : s.taken.seize loader mode =
        ((s.taken.addEntry l .seize m (((s.item? l).map (·.epoch)).getD 0)).removeItem l .silent, { code := .ok }) := by
      rw [State.seize_eq hbad hm, hchecks]
      rfl
    obtain ⟨t, hrequest, hadded, hreplies⟩ := (h.admits 0x16).adds tag hactive hclass hroom hact
    exact ⟨t, congrArg _ hrequest, hadded, hreplies⟩

end Sys2Proof.Machine
end

/-!
PROOFS. SET_MODE and the manual reclaim, OFFER, WITHDRAW and RELEASE, and the requests that arm the gesture (R61, R63 to R66,
R98, R100).
-/
section

namespace Sys2Proof.Machine

/-! ### SET_MODE and the manual reclaim (R61, R63) -/

theorem Phase.isHeld_iff {p : Phase} : p.isHeld = true ↔ ∃ o, p = .held o := by
  cases p <;> simp [Phase.isHeld]

/-- R61, R63: a request that makes an entry claim again. -/
theorem State.Admits.claims {kind : Byte} {role : RequestRole} {s : State} (h : s.Admits kind role) (tag : Byte)
    (hactive : s.active = true) (hclass : s.liu.classA.length < 8) {act : State → State × Answer} {l : Nat} {g : Origin}
    {m : Mode} {epoch : Epoch} (hact : act s.taken = (s.taken.claimAgain l g m epoch, { code := .ok })) :
    ∃ t, s.request kind tag true role act = t ∧ s.ClaimedAgain l g m epoch t ∧
      s.link.Replies kind tag .ok [] [] 0 t.link := by
  obtain ⟨hclaimed, hlink⟩ := State.claimAgain_spec (s := s.taken) hactive hclass l g m epoch
  obtain ⟨k, hrequest, hreplies⟩ := h.posting tag hact (by rw [hlink]; exact .refl _)
  exact ⟨_, hrequest, hclaimed.withLink k, hreplies⟩

section setMode
variable {s : State} {mode : Byte} {m : Mode} {e : Entry} {l : Nat}

theorem State.setModeOf_refused {code : ResultCode} (hphase : e.phase.isHeld = true) (hmode : m ≠ e.mode)
    (hchecks : firstFailure [s.driveCheck e.loader m, s.gestureCheck m] = some code) :
    s.setModeOf e m = (s, { code }) := by
  simp [State.setModeOf, hphase, hmode, hchecks, State.answer]

theorem State.setModeOf_supervise (hphase : e.phase.isHeld = true) (hmode : e.mode = .drive)
    (hchecks : firstFailure [s.driveCheck e.loader .supervise, s.gestureCheck .supervise] = none) :
    s.setModeOf e .supervise = (s.changeMode e .supervise, { code := .ok }) := by
  simp [State.setModeOf, hphase, hmode, hchecks, State.answer]

theorem State.setModeOf_drive (hphase : e.phase.isHeld = true) (hmode : e.mode = .supervise)
    (hchecks : firstFailure [s.driveCheck e.loader .drive, s.gestureCheck .drive] = none) :
    s.setModeOf e .drive = (s.armGesture .setMode e.loader, { code := .ok }) := by
  simp [State.setModeOf, hphase, hmode, hchecks, State.answer]

theorem State.setModeOf_own (hphase : e.phase.isHeld = true) (hmode : m = e.mode) :
    s.setModeOf e m = (s, { code := .ok }) := by
  simp [State.setModeOf, hphase, hmode]

theorem State.reclaim_refused {code : ResultCode}
    (hchecks : firstFailure [s.postureCheck, s.chainCheck, s.driveCheck e.loader m, s.gestureCheck m] = some code) :
    s.reclaim e m = (s, { code }) := by
  unfold State.reclaim
  rw [hchecks]
  rfl

theorem State.modeChecks_decides (hmode : modeOf? mode = some m) (l : Nat) :
    Decides
      [(mode = 1 ∧ ∃ e ∈ s.holds.entries, e.mode = .drive ∧ e.loader ≠ l, .driveBusy),
        (mode = 1 ∧ s.board.gesture ≠ none, .busy)]
      (firstFailure [s.driveCheck l m, s.gestureCheck m]) := by
  simp only [← modeOf?_drive hmode]
  exact (State.driveCheck_decides l m).join (State.gestureCheck_decides m).last

theorem State.reclaim_decides (hmode : modeOf? mode = some m) (l : Nat) :
    Decides
      [(s.holds.posture = .vacant, .vacant), (s.holds.posture = .standingDown, .standingDown),
        (s.discrete.stopchain.active = false, .chainOpen),
        (mode = 1 ∧ ∃ e ∈ s.holds.entries, e.mode = .drive ∧ e.loader ≠ l, .driveBusy),
        (mode = 1 ∧ s.board.gesture ≠ none, .busy)]
      (firstFailure [s.postureCheck, s.chainCheck, s.driveCheck l m, s.gestureCheck m]) :=
  State.postureCheck_decides.join (State.chainCheck_decides.join (State.modeChecks_decides hmode l))

end setMode

/-- Settles O44: the first failed check answers; one that passes in SUPERVISE claims again. -/
theorem setModeAndTheManualReclaimClaimAgain : Obligations.SetModeAndTheManualReclaimClaimAgain := by
  intro s tag loader mode h l value driveBusy own changes reclaims request claim
  have hactive : s.active = true := (State.activeAs_iff.mp h.activeAs).1
  have setted {code : ResultCode} (hact : s.taken.setMode loader mode = (s.taken, { code })) :
      ∃ k, request = .next { s with link := k } ∧ s.link.Replies 0x12 tag code [] [] 0 k := by
    obtain ⟨k, hrequest, hreplies⟩ := (h.admits 0x12).refuses tag hact
    exact ⟨k, congrArg _ hrequest, hreplies⟩
  have hown {e : Entry} {m : Mode} (he : s.entry? l = some e) (hm : modeOf? mode = some m) : own ↔ m = e.mode := by
    have hsingle : own ↔ mode = modeCode e.mode := by simp [own, he]
    rw [hsingle, ← modeOf?_eq_some, hm, Option.some.injEq]
  have held {e : Entry} (he : s.entry? l = some e)
      (hphase : ¬ ∀ e, s.entry? l = some e → ∀ o, e.phase ≠ .held o) : e.phase.isHeld = true := by
    rw [Phase.isHeld_iff]
    by_contra hnot
    refine hphase fun e' he' o ho => hnot ⟨o, ?_⟩
    cases he.symm.trans he'
    exact ho
  have hheldOf (hpass : ∀ c ∈ changes, ¬ c.1) {e : Entry} (he : s.entry? l = some e) : e.phase.isHeld = true :=
    held he (hpass (∀ e, s.entry? l = some e → ∀ o, e.phase ≠ .held o, .wrongPhase) (by simp [changes]))
  refine ⟨fun code hfails => setted ?_, fun hpass hsame => setted ?_, fun e hpass he hdrive hmode hclass => ?_,
    fun e he hphase => ⟨fun code hfails => ?_, fun hpass hmode hclass => ?_⟩⟩
  · rcases hfails with ⟨hvalue, rfl⟩ | ⟨hvalue, hfails⟩
    · exact (value_fails (s := s.taken) hvalue).2.2
    obtain ⟨hbad, m, hm⟩ := value_passes (s := s.taken) hvalue
    rcases hfails with ⟨hnone, rfl⟩ | ⟨hsome, hfails⟩
    · exact State.setMode_new (s := s.taken) hbad hm hnone
    obtain ⟨e, he⟩ := Option.ne_none_iff_exists'.mp hsome
    obtain ⟨hloader, -⟩ := State.entry?_some he
    rw [State.setMode_held (s := s.taken) hbad hm he]
    rcases hfails with ⟨hphase, rfl⟩ | ⟨hphase, hfails⟩
    · have hnot : e.phase.isHeld = false := by
        rw [← Bool.not_eq_true, Phase.isHeld_iff]
        exact fun ⟨o, ho⟩ => hphase e he o ho
      simp [State.setModeOf, hnot]
    have hheld := held he hphase
    have hother : ¬ own := by
      rcases hfails with ⟨⟨hother, -⟩, -⟩ | ⟨-, ⟨⟨hother, -⟩, -⟩ | ⟨-, hnone⟩⟩
      · exact hother
      · exact hother
      · exact hnone.elim
    have hchanged : FirstFails [(driveBusy, .driveBusy), (mode = 1 ∧ s.board.gesture ≠ none, .busy)] code := by
      simpa [FirstFails, hother] using hfails
    refine State.setModeOf_refused hheld (fun hsame => hother ((hown he hm).mpr hsame)) ?_
    rw [hloader]
    exact (State.modeChecks_decides (s := s.taken) hm l).1 code hchanged
  · obtain ⟨hbad, m, hm⟩ := value_passes (s := s.taken) (hpass (value, .badValue) (by simp [changes]))
    obtain ⟨e, he⟩ := Option.ne_none_iff_exists'.mp (hpass (s.entry? l = none, .notHeld) (by simp [changes]))
    rw [State.setMode_held (s := s.taken) hbad hm he]
    exact State.setModeOf_own (hheldOf hpass he) ((hown he hm).mp hsame)
  · obtain ⟨hbad, m, hm⟩ := value_passes (s := s.taken) (hpass (value, .badValue) (by simp [changes]))
    obtain ⟨hloader, -⟩ := State.entry?_some he
    have hm' := (modeOf?_supervise hm).mpr hmode
    subst hm'
    have hact : s.taken.setMode loader mode = (s.taken.claimAgain l (.modeChange .drive) .supervise e.epoch,
        { code := .ok }) := by
      rw [State.setMode_held (s := s.taken) hbad hm he, State.setModeOf_supervise (hheldOf hpass he) hdrive]
      · rw [State.changeMode, hloader, hdrive]
      · have hone : ¬ mode = 1 := by rw [hmode]; decide
        refine (State.modeChecks_decides (s := s.taken) hm e.loader).2 fun c hc hfailed => ?_
        rcases List.mem_pair.mp hc with rfl | rfl <;> exact hone hfailed.1
    obtain ⟨t, hrequest, hclaimed, hreplies⟩ := (h.admits 0x12).claims tag hactive hclass hact
    exact ⟨t, congrArg _ hrequest, hclaimed, hreplies⟩
  · have hact : s.taken.claim loader mode = (s.taken, { code }) := by
      rcases hfails with ⟨hvalue, rfl⟩ | ⟨hvalue, hfails⟩
      · exact (value_fails (s := s.taken) hvalue).1
      · obtain ⟨hbad, m, hm⟩ := value_passes (s := s.taken) hvalue
        obtain ⟨hloader, -⟩ := State.entry?_some he
        rw [State.claim_held (s := s.taken) hbad hm he, if_pos hphase]
        refine State.reclaim_refused ?_
        rw [hloader]
        exact (State.reclaim_decides (s := s.taken) hm l).1 code hfails
    obtain ⟨k, hrequest, hreplies⟩ := (h.admits 0x11).refuses tag hact
    exact ⟨k, congrArg _ hrequest, hreplies⟩
  · obtain ⟨hbad, m, hm⟩ := value_passes (s := s.taken) (hpass (value, .badValue) (by simp [reclaims]))
    obtain ⟨hloader, -⟩ := State.entry?_some he
    have hm' := (modeOf?_supervise hm).mpr hmode
    subst hm'
    have hchecks := (State.reclaim_decides (s := s.taken) hm l).2 fun c hc => hpass c (List.mem_cons_of_mem _ hc)
    have hact : s.taken.claim loader mode = (s.taken.claimAgain l .reclaim .supervise e.epoch, { code := .ok }) := by
      rw [State.claim_held (s := s.taken) hbad hm he, if_pos hphase]
      unfold State.reclaim
      rw [hloader, hchecks]
      rfl
    obtain ⟨t, hrequest, hclaimed, hreplies⟩ := (h.admits 0x11).claims tag hactive hclass hact
    exact ⟨t, congrArg _ hrequest, hclaimed, hreplies⟩

end Sys2Proof.Machine
end

/-!
PROOFS. OFFER, WITHDRAW and RELEASE on an entry, and the requests that arm the gesture (R60, R61, R63 to R66, R93, R98, R100).
-/
section

namespace Sys2Proof.Machine

/-! ### OFFER, WITHDRAW and RELEASE (R64 to R66) -/

theorem State.ReleasedWith.withLink {s t : State} {loader : Nat} {m : Option Mode} {epoch : Epoch}
    (h : s.ReleasedWith loader m epoch t) (k : Link) : s.ReleasedWith loader m epoch { t with link := k } := by
  obtain ⟨hframe, hjoined⟩ := h
  exact ⟨congrArg (fun u : State => { u with link := k }) hframe, hjoined⟩

section entry
variable {s : State} {loader target mode : Byte} {expiry : Half} {code : ResultCode}

/-- R59: a request on an entry that fails a check. -/
theorem State.onEntry_refused {act : Entry → State → State × Answer} {fits : Phase → Prop}
    (hact : ∀ e, ¬ fits e.phase → act e s = (s, { code := .wrongPhase }))
    (h : FirstFails
      [(¬ (isStation loader = true ∧ loader.toNat ≠ s.station), .badValue), (s.entry? loader.toNat = none, .notHeld),
        (∀ e, s.entry? loader.toNat = some e → ¬ fits e.phase, .wrongPhase)] code) :
    s.onEntry loader act = (s, { code }) := by
  rcases h with ⟨hvalue, rfl⟩ | ⟨hvalue, h⟩
  · simp [State.onEntry, State.badLoader_iff.mpr hvalue]
  have hbad : s.badLoader loader = false := by
    rw [← Bool.not_eq_true, State.badLoader_iff]
    exact hvalue
  rcases h with ⟨hnone, rfl⟩ | ⟨hsome, h⟩
  · simp [State.onEntry, hbad, hnone]
  obtain ⟨e, he⟩ := Option.ne_none_iff_exists'.mp hsome
  rcases h with ⟨hphase, rfl⟩ | ⟨-, hnone⟩
  · rw [State.onEntry_of_held hbad he]
    exact hact e (hphase e he)
  · exact hnone.elim

theorem State.withdrawOf_wrong {e : Entry} (h : ¬ ∃ o, e.phase = .offering o) :
    s.withdrawOf e = (s, { code := .wrongPhase }) := by
  unfold State.withdrawOf
  cases hphase : e.phase with
  | offering o => exact absurd ⟨o, hphase⟩ h
  | acquiring g out => rfl
  | held o => rfl
  | releasing out => rfl
  | suspended => rfl

theorem State.releaseOf_wrong {e : Entry}
    (h : ¬ ((∃ o, e.phase = .held o) ∨ (∃ o, e.phase = .offering o) ∨ e.phase = .suspended)) :
    s.releaseOf e = (s, { code := .wrongPhase }) := by
  unfold State.releaseOf
  cases hphase : e.phase with
  | held o => exact absurd (.inl ⟨o, hphase⟩) h
  | offering o => exact absurd (.inr (.inl ⟨o, hphase⟩)) h
  | suspended => exact absurd (.inr (.inr hphase)) h
  | acquiring g out => rfl
  | releasing out => rfl

theorem State.releaseOf_fits {e : Entry}
    (h : (∃ o, e.phase = .held o) ∨ (∃ o, e.phase = .offering o) ∨ e.phase = .suspended) :
    s.releaseOf e = (s.sendRelease e.loader e.epoch, { code := .ok }) := by
  rcases h with ⟨o, h⟩ | ⟨o, h⟩ | h <;> simp only [State.releaseOf, h]

/-- R59: the value check of an OFFER. -/
theorem State.offerValue_iff :
    (s.badLoader loader || s.badTarget loader target) = true ↔
      ¬ (isStation loader = true ∧ loader.toNat ≠ s.station) ∨
        ¬ ((isStation target = true ∧ target.toNat ≠ s.station ∧ target ≠ loader) ∨
          (65 ≤ target.toNat ∧ target.toNat ≤ 72)) := by
  rw [Bool.or_eq_true, State.badLoader_iff]
  refine or_congr_right ?_
  unfold State.badTarget
  rw [Bool.not_eq_true', ← Bool.not_eq_true, Bool.or_eq_true, Bool.and_eq_true, decide_eq_true_iff, decide_eq_true_iff]

theorem State.offerValue_passes
    (h : ¬ (¬ (isStation loader = true ∧ loader.toNat ≠ s.station) ∨
      ¬ ((isStation target = true ∧ target.toNat ≠ s.station ∧ target ≠ loader) ∨
        (65 ≤ target.toNat ∧ target.toNat ≤ 72)) ∨ ¬ (mode = 1 ∨ mode = 2))) :
    (s.badLoader loader || s.badTarget loader target) = false ∧ ∃ m, modeOf? mode = some m := by
  obtain ⟨hloader, htarget, hmode⟩ := (not_or.trans (and_congr_right fun _ => not_or)).mp h
  refine ⟨?_, Option.isSome_iff_exists.mp (modeOf?_isSome.mpr (not_not.mp hmode))⟩
  rw [← Bool.not_eq_true, State.offerValue_iff]
  exact not_or.mpr ⟨hloader, htarget⟩

/-- R64: an OFFER of a HELD entry, with room in class A: its deadline is not running yet. -/
theorem State.makeOffer_spec {e : Entry} {m : Mode} (hactive : s.active = true) (hclass : s.liu.classA.length < 8)
    (hmode : modeOf? mode = some m) :
    let x := max 1 (min expiry.toNat 300)
    ∃ q, s.makeOffer e target m expiry =
        { s with
          holds := { s.holds with
            entries := s.holds.entries.map fun y =>
              if y.loader = e.loader then
                Entry.enter (.offering ⟨Party.ofCode target.toNat, m, min (ms (100 * x)) (sec s.settings.tx), none,
                  s.holds.nextRef⟩) y
              else y
            nextRef := s.holds.nextRef + 1 }
          liu := q } ∧
      Liu.Joined (TxFrame.make .offer target.toNat e.loader e.epoch (mode :: bytesOfNat16 x) (.offer s.holds.nextRef))
        s.liu q := by
  intro x
  have hframe : offerFrame e target m expiry s.holds.nextRef =
      TxFrame.make .offer target.toNat e.loader e.epoch (mode :: bytesOfNat16 x) (.offer s.holds.nextRef) := by
    rw [modeOf?_eq_some.mp hmode]
    rfl
  obtain ⟨hgive, hjoined, hdrop⟩ := State.give_spec (offerFrame e target m expiry s.holds.nextRef) s hactive
    (by exact hclass)
  generalize (s.give (offerFrame e target m expiry s.holds.nextRef)).liu = q at hgive hjoined
  refine ⟨q, ?_, hframe ▸ hjoined⟩
  unfold State.makeOffer
  simp only [hdrop, hgive]
  rfl

theorem State.offer_refused
    (h : FirstFails
      [(¬ (isStation loader = true ∧ loader.toNat ≠ s.station) ∨
          ¬ ((isStation target = true ∧ target.toNat ≠ s.station ∧ target ≠ loader) ∨
            (65 ≤ target.toNat ∧ target.toNat ≤ 72)) ∨ ¬ (mode = 1 ∨ mode = 2), .badValue),
        (s.entry? loader.toNat = none, .notHeld),
        (∀ e, s.entry? loader.toNat = some e → ¬ ∃ o, e.phase = .held o, .wrongPhase)] code) :
    s.offer loader target mode expiry = (s, { code }) := by
  rcases h with ⟨hvalue, rfl⟩ | ⟨hvalue, h⟩
  · cases hbad : (s.badLoader loader || s.badTarget loader target) with
    | true => simp only [State.offer, hbad]
    | false =>
      cases hm : modeOf? mode with
      | none => simp only [State.offer, hbad, hm]
      | some m =>
        have hmode : mode = 1 ∨ mode = 2 := modeOf?_isSome.mp (by rw [hm]; rfl)
        have htrue := State.offerValue_iff.mpr (hvalue.imp_right fun h => h.resolve_right (not_not.mpr hmode))
        rw [hbad] at htrue
        cases htrue
  · obtain ⟨hbad, m, hm⟩ := State.offerValue_passes hvalue
    rcases h with ⟨hnone, rfl⟩ | ⟨hsome, h⟩
    · simp only [State.offer, hbad, hm, hnone]
    obtain ⟨e, he⟩ := Option.ne_none_iff_exists'.mp hsome
    rcases h with ⟨hphase, rfl⟩ | ⟨-, hnone⟩
    · have hnot : e.phase.isHeld = false := by
        rw [← Bool.not_eq_true, Phase.isHeld_iff]
        exact hphase e he
      simp [State.offer, hbad, hm, he, hnot]
    · exact hnone.elim

theorem State.offer_of_held {e : Entry} {m : Mode}
    (hbad : (s.badLoader loader || s.badTarget loader target) = false) (hm : modeOf? mode = some m)
    (he : s.entry? loader.toNat = some e) (hphase : e.phase.isHeld = true) :
    s.offer loader target mode expiry = (s.makeOffer e target m expiry, { code := .ok }) := by
  simp [State.offer, hbad, hm, he, hphase]

end entry

/-- Settles O45: the first failed check answers; one that passes sends its frame and moves the phase. -/
theorem offersWithdrawalsAndReleasesFollowThePhase : Obligations.OffersWithdrawalsAndReleasesFollowThePhase := by
  intro s tag loader h l badLoader checks isHeld isOffering refused
  have hactive : s.active = true := (State.activeAs_iff.mp h.activeAs).1
  refine ⟨fun target mode expiry => ?_, fun code hfails => ?_, fun e o hgood he hphase hclass => ?_, ?_⟩
  · intro goodTarget offerChecks x
    refine ⟨fun code hfails => ?_, fun e m hpass he hm hclass => ?_⟩
    · obtain ⟨k, hrequest, hreplies⟩ :=
        (h.admits 0x13).refuses tag (State.offer_refused (s := s.taken) (expiry := expiry) hfails)
      exact ⟨k, congrArg _ hrequest, hreplies⟩
    · have hvalue := hpass (badLoader ∨ ¬ goodTarget ∨ ¬ (mode = 1 ∨ mode = 2), .badValue)
        (by simp [offerChecks, checks])
      obtain ⟨hbad, -⟩ := State.offerValue_passes (s := s.taken) hvalue
      have hheld : e.phase.isHeld = true := by
        rw [Phase.isHeld_iff]
        by_contra hnot
        refine hpass (∀ e, s.entry? l = some e → ¬ isHeld e.phase, .wrongPhase) (by simp [offerChecks, checks])
          fun e' he' => ?_
        cases he.symm.trans he'
        exact hnot
      obtain ⟨hloader, -⟩ := State.entry?_some he
      obtain ⟨q, hoffer, hjoined⟩ :=
        State.makeOffer_spec (s := s.taken) (e := e) (target := target) (expiry := expiry) hactive hclass hm
      have hact := State.offer_of_held (s := s.taken) (expiry := expiry) hbad hm he hheld
      rw [hoffer] at hact
      obtain ⟨k, hrequest, hreplies⟩ := (h.admits 0x13).posting tag hact (.refl _)
      rw [hloader] at hrequest hjoined
      exact ⟨k, q, congrArg _ hrequest, hjoined, hreplies⟩
  · obtain ⟨k, hrequest, hreplies⟩ := (h.admits 0x14).refuses tag
      (State.onEntry_refused (s := s.taken) (fun e => State.withdrawOf_wrong) hfails)
    exact ⟨k, congrArg _ hrequest, hreplies⟩
  · obtain ⟨hloader, -⟩ := State.entry?_some he
    obtain ⟨hstation, hother⟩ := not_not.mp hgood
    obtain ⟨q, hsent, hjoined⟩ := State.sendWithdraw_spec (s := s.taken) hactive hclass e
    rw [hloader] at hjoined
    have hact : s.taken.withdraw loader = (({ s.taken with liu := q } : State).endOffer l o, { code := .ok }) := by
      rw [State.withdraw, State.onEntry_of_held (s := s.taken) (State.badLoader_eq_false hstation hother) he]
      simp only [State.withdrawOf, hphase, hsent, hloader]
    obtain ⟨k, hrequest, hreplies⟩ := (h.admits 0x14).posting tag hact (.refl _)
    exact ⟨k, q, congrArg _ hrequest, hjoined, hreplies⟩
  · intro releaseChecks
    refine ⟨fun code hfails => ?_, fun e hpass he hclass => ?_⟩
    · obtain ⟨k, hrequest, hreplies⟩ := (h.admits 0x15).refuses tag
        (State.onEntry_refused (s := s.taken) (loader := loader)
          (fits := fun p => isHeld p ∨ isOffering p ∨ p = .suspended) (fun e => State.releaseOf_wrong) hfails)
      exact ⟨k, congrArg _ hrequest, hreplies⟩
    · obtain ⟨hloader, -⟩ := State.entry?_some he
      obtain ⟨hstation, hother⟩ := not_not.mp (hpass (badLoader, .badValue) (by simp [releaseChecks, checks]))
      have hfits : isHeld e.phase ∨ isOffering e.phase ∨ e.phase = .suspended := by
        by_contra hnot
        refine hpass (∀ e, s.entry? l = some e → ¬ (isHeld e.phase ∨ isOffering e.phase ∨ e.phase = .suspended),
          .wrongPhase) (by simp [releaseChecks, checks]) fun e' he' => ?_
        cases he.symm.trans he'
        exact hnot
      have hact : s.taken.release loader = (s.taken.sendRelease l e.epoch, { code := .ok }) := by
        rw [State.release, State.onEntry_of_held (s := s.taken) (State.badLoader_eq_false hstation hother) he,
          State.releaseOf_fits hfits, hloader]
      obtain ⟨hreleased, hlink⟩ := State.sendRelease_spec (s := s.taken) hactive hclass l e.epoch
      obtain ⟨k, hrequest, hreplies⟩ := (h.admits 0x15).posting tag hact (by rw [hlink]; exact .refl _)
      exact ⟨_, congrArg Host.Outcome.next hrequest, hreleased.withLink k, hreplies⟩

/-! ### The requests that arm the gesture (R98, R100) -/

theorem State.exec_gestureWindow {s : State} {g : Gesture} (hchair : s.activeAs .chair = true)
    (hgesture : s.board.gesture = some g) :
    exec .gestureWindowExpiry s = .next ((s.reach g.deadline).failGesture .timeout) := by
  show execGestureWindowExpiry s = _
  simp [execGestureWindowExpiry, hchair, hgesture]

/-- R55: with no other loader's entry in DRIVE the one-DRIVE check passes. -/
theorem State.driveCheck_passes {s : State} {l : Nat} (hothers : ∀ e ∈ s.holds.entries, e.loader ≠ l → e.mode ≠ .drive)
    (m : Mode) : s.driveCheck l m = none :=
  (State.driveCheck_decides l m).2 (by
    intro c hc hfailed
    cases List.mem_singleton.mp hc
    obtain ⟨-, e, he, hdrive, hother⟩ := hfailed
    exact hothers e he hother hdrive)

theorem State.gestureCheck_passes {s : State} (hgesture : s.board.gesture = none) (m : Mode) : s.gestureCheck m = none := by
  simp [State.gestureCheck, failIf, hgesture]

theorem State.postureCheck_passes {s : State} (hposture : s.holds.posture = .active) : s.postureCheck = none := by
  simp [State.postureCheck, hposture, Posture.refusal]

theorem State.chainCheck_passes {s : State} (hchain : s.discrete.stopchain.active = true) : s.chainCheck = none := by
  simp [State.chainCheck, State.chainClosed, failIf, hchain]

theorem State.roomCheck_passes {s : State} (hroom : s.holds.entries.length < 6) : s.roomCheck = none :=
  State.roomCheck_decides.2 (by
    rintro c hc hfull
    cases List.mem_singleton.mp hc
    exact absurd hroom (Nat.not_lt.mpr hfull))

/-- Settles O41: each request passes its checks and arms the gesture; the window's expiry ends it. -/
theorem aDriveRequestArmsTheGesture : Obligations.ADriveRequestArmsTheGesture := by
  refine ⟨fun s tag loader h hstation hother hgesture hothers => ?_, fun s g hchair hgesture hroom => ?_⟩
  · intro armed
    have hbad : s.taken.badLoader loader = false := State.badLoader_eq_false hstation hother
    have hdrive : modeOf? 1 = some .drive := rfl
    have hfree : s.taken.board.gesture = none := hgesture
    have hothers' : ∀ e ∈ s.taken.holds.entries, e.loader ≠ loader.toNat → e.mode ≠ .drive := hothers
    have hgestureCheck := State.gestureCheck_passes hfree .drive
    have hdriveCheck := State.driveCheck_passes hothers' .drive
    have arms {kind : Byte} {act : State → State × Answer} {r : GestureRequest}
        (hact : act s.taken = (s.taken.armGesture r loader.toNat, { code := .ok })) :
        ∃ k, s.request kind tag true (some .chair) act = armed r k ∧ s.link.Replies kind tag .ok [] [] 0 k :=
      (h.admits kind).posting tag hact (.refl _)
    refine ⟨fun hposture hchain he htable => ?_, fun e hposture hchain he hphase => ?_, fun e o he hphase hmode => ?_,
      fun i hposture hchain hpresented hloader hmode htable => ?_⟩
    · have hact : s.taken.claim loader 1 = (s.taken.armGesture .claim loader.toNat, { code := .ok }) := by
        rw [State.claim_new hbad hdrive he]
        simp [State.claimNew, State.answer, firstFailure, hgestureCheck, hdriveCheck,
          State.postureCheck_passes (s := s.taken) hposture, State.chainCheck_passes (s := s.taken) hchain,
          State.roomCheck_passes (s := s.taken) htable]
      obtain ⟨k, hrequest, hreplies⟩ := arms hact
      exact ⟨k, congrArg _ hrequest, hreplies⟩
    · obtain ⟨hloader, -⟩ := State.entry?_some he
      have hact : s.taken.claim loader 1 = (s.taken.armGesture .reclaim loader.toNat, { code := .ok }) := by
        rw [State.claim_held hbad hdrive he, if_pos hphase]
        simp [State.reclaim, State.answer, firstFailure, hloader, hgestureCheck, hdriveCheck,
          State.postureCheck_passes (s := s.taken) hposture, State.chainCheck_passes (s := s.taken) hchain]
      obtain ⟨k, hrequest, hreplies⟩ := arms hact
      exact ⟨k, congrArg _ hrequest, hreplies⟩
    · obtain ⟨hloader, -⟩ := State.entry?_some he
      have hact : s.taken.setMode loader 1 = (s.taken.armGesture .setMode loader.toNat, { code := .ok }) := by
        rw [State.setMode_held hbad hdrive he,
          State.setModeOf_drive (Phase.isHeld_iff.mpr ⟨o, hphase⟩) hmode
            (by simp [firstFailure, hloader, hgestureCheck, hdriveCheck]), hloader]
      obtain ⟨k, hrequest, hreplies⟩ := arms hact
      exact ⟨k, congrArg _ hrequest, hreplies⟩
    · have htests : acceptTests loader s.taken = none := by
        simp [acceptTests, firstFailure, failIf, hstation, State.postureCheck_passes (s := s.taken) hposture,
          State.chainCheck_passes (s := s.taken) hchain, refusalOf,
          State.presentedFor_of (s := s.taken) hpresented hloader]
      have hact : s.taken.acceptItem loader = (s.taken.armGesture .acceptItem loader.toNat, { code := .ok }) := by
        rw [State.acceptItem_passed (s := s.taken) htests hpresented hloader]
        simp [State.itemChecks, State.answer, firstFailure, failIf, hloader, hmode, hgestureCheck, hdriveCheck,
          State.roomCheck_passes (s := s.taken) htable]
      obtain ⟨k, hrequest, hreplies⟩ := arms hact
      exact ⟨k, congrArg _ hrequest, hreplies⟩
  · refine ⟨_, (State.exec_gestureWindow hchair hgesture).trans (congrArg _ (State.failGesture_frame _ _)), ?_⟩
    exact (State.failGesture_fills (s := s.reach g.deadline) hgesture .timeout hroom).1

end Sys2Proof.Machine
end

/-!
PROOFS. The stop list, and STOP, STOP_ALL and CLEAR from the console (R167, R170, R171).
-/
section

namespace Sys2Proof.Machine

/-! ### The stop list (R167) -/

/-- R167: an entry joins behind those of its time, so that the first of the list is no later than it. -/
theorem insertStop_head_le {new e : StopEntry} {l rest : List StopEntry} (h : insertStop new l = e :: rest) :
    e.notBefore ≤ new.notBefore := by
  cases l with
  | nil =>
    cases h
    exact Nat.le_refl _
  | cons g tail =>
    unfold insertStop at h
    split at h
    · next hle =>
      cases h
      exact hle
    · cases h
      exact Nat.le_refl _

section join
variable {s : State} {new e : StopEntry} {rest : List StopEntry}

/-- R167: while a STOP is outstanding an entry waits in the list. -/
theorem State.joinStop_waiting (hroom : s.discrete.stopList.length < 32) (hwaits : s.discrete.stopOutstanding = true) :
    s.joinStop new = { s with discrete := { s.discrete with stopList := insertStop new s.discrete.stopList } } := by
  unfold State.joinStop State.giveStop
  rw [if_pos (by exact hroom), if_pos (.inr hwaits)]

/-- R167: with none outstanding the first entry of the list, due as one joins that is due, is given to the LIU. -/
theorem State.joinStop_giving (hactive : s.active = true) (hroom : s.discrete.stopList.length < 32)
    (hfree : s.discrete.stopOutstanding = false) (hlist : insertStop new s.discrete.stopList = e :: rest)
    (hdue : new.notBefore ≤ s.now) (hclass : s.liu.classS.length < 2) :
    ∃ q, s.joinStop new =
        { s with discrete := { s.discrete with stopList := rest, stopOutstanding := true }, liu := q } ∧
      Liu.Joined (TxFrame.make .stop e.loader e.loader ((s.entry? e.loader).map (·.epoch) |>.getD 0) [e.reason] .stop)
        s.liu q := by
  obtain ⟨hgive, hjoined⟩ := State.giveStop_of_due
    (s := { s with discrete := { s.discrete with stopList := insertStop new s.discrete.stopList } }) hactive hfree hlist
    ((insertStop_head_le hlist).trans hdue) hclass
  refine ⟨_, ?_, hjoined⟩
  unfold State.joinStop
  rw [if_pos (by exact hroom)]
  exact hgive

end join

/-! ### CLEAR (R171) -/

theorem State.sendClear_spec {s : State} {e : Entry} (hactive : s.active = true) (hclass : s.liu.classS.length < 2) :
    ∃ q, s.sendClear e = { s with discrete := { s.discrete with clearUnsent := true }, liu := q } ∧
      Liu.Joined (TxFrame.make .clear e.loader e.loader e.epoch [] .clear) s.liu q := by
  obtain ⟨hgive, hjoined, hdrop⟩ :=
    State.give_spec (TxFrame.make .clear e.loader e.loader e.epoch [] .clear) s hactive (by exact hclass)
  generalize (s.give (TxFrame.make .clear e.loader e.loader e.epoch [] .clear)).liu = q at hgive hjoined
  refine ⟨q, ?_, hjoined⟩
  unfold State.sendClear
  simp only [hdrop, hgive]
  rfl

/-- R171: the checks of CLEAR on an entry. -/
theorem State.clearOf_decides {s : State} {loader : Nat} {e : Entry} (he : s.entry? loader = some e) :
    Decides
      [(∀ e, s.entry? loader = some e → ∀ o, e.phase ≠ .held o, .wrongPhase),
        (s.discrete.stopchain.active = false, .chainOpen), (s.discrete.clearUnsent = true, .busy)]
      (firstFailure [failIf (!e.phase.isHeld) .wrongPhase, s.chainCheck, failIf s.discrete.clearUnsent .busy]) := by
  have hphase : (!e.phase.isHeld) = true ↔ ∀ e, s.entry? loader = some e → ∀ o, e.phase ≠ .held o := by
    rw [Bool.not_eq_true', ← Bool.not_eq_true, Phase.isHeld_iff]
    simp [he]
  exact (decides_failIf hphase).join (State.chainCheck_decides.join (decides_failIf Iff.rfl).last)

/-- R170: the checks of STOP. -/
theorem State.stopLoader_decides (loader : Byte) (s : State) :
    Decides
      [(¬ (isStation loader = true ∧ loader.toNat ≠ s.station), .badValue),
        (32 ≤ s.discrete.stopList.length, .listFull)]
      (firstFailure [failIf (s.badLoader loader) .badValue, s.listCheck]) :=
  (decides_failIf State.badLoader_iff).join (decides_failIf decide_eq_true_iff).last

/-- Settles O53: the checks answer in order; what passes joins the list, which gives its first entry. -/
theorem stopsAndClearsAreGivenToTheLine : Obligations.StopsAndClearsAreGivenToTheLine := by
  refine ⟨fun s tag loader h => ?_, fun s e rest hchair hfree hlist hclass => ?_⟩
  · intro badLoader full refused joins
    have hactive : s.active = true := (State.activeAs_iff.mp h.activeAs).1
    have refuses {request : Instr} {kind : Byte} {act : State → State × Answer} {code : ResultCode}
        (hexec : exec request s = .next (s.request kind tag true (some .chair) act))
        (hact : act s.taken = (s.taken, { code })) : refused request kind code := by
      obtain ⟨k, hrequest, hreplies⟩ := (h.admits kind).refuses tag hact
      exact ⟨k, hexec.trans (congrArg _ hrequest), hreplies⟩
    have joining {request : Instr} {kind : Byte} {act : State → State × Answer} {new : StopEntry}
        (hexec : exec request s = .next (s.request kind tag true (some .chair) act)) (hnow : new.notBefore = s.now)
        (hact : s.discrete.stopList.length < 32 → act s.taken = (s.taken.joinStop new, { code := .ok })) :
        joins request kind new := by
      intro hroom joined
      replace hact := hact hroom
      refine ⟨fun hwaits => ?_, fun e rest hfree hlist hclass => ?_⟩
      · rw [State.joinStop_waiting (s := s.taken) hroom hwaits] at hact
        obtain ⟨k, hrequest, hreplies⟩ := (h.admits kind).posting tag hact (.refl _)
        exact ⟨k, hexec.trans (congrArg _ hrequest), hreplies⟩
      · obtain ⟨q, hjoin, hjoined⟩ := State.joinStop_giving (s := s.taken) hactive hroom hfree hlist
          (Nat.le_of_eq hnow) hclass
        rw [hjoin] at hact
        obtain ⟨k, hrequest, hreplies⟩ := (h.admits kind).posting tag hact (.refl _)
        exact ⟨k, q, hexec.trans (congrArg _ hrequest), hjoined, hreplies⟩
    refine ⟨fun code hfails => ?_, fun hgood => ?_, fun hfull => ?_, ?_, ?_⟩
    · refine refuses (act := State.stopLoader loader) rfl ?_
      unfold State.stopLoader
      rw [(s.taken.stopLoader_decides loader).1 code hfails]
      rfl
    · refine joining (act := State.stopLoader loader) rfl rfl fun hroom => ?_
      unfold State.stopLoader
      rw [(s.taken.stopLoader_decides loader).2 fun c hc hfailed => ?_]
      · rfl
      · rcases List.mem_pair.mp hc with rfl | rfl
        · exact hgood hfailed
        · exact absurd hroom (Nat.not_lt.mpr hfailed)
    · refine refuses (act := State.stopEvery) rfl ?_
      have hcheck : s.taken.listCheck = some .listFull := if_pos (decide_eq_true hfull)
      unfold State.stopEvery
      rw [hcheck]
      rfl
    · refine joining (act := State.stopEvery) rfl rfl fun hroom => ?_
      have hcheck : s.taken.listCheck = none := if_neg fun hfull =>
        absurd hroom (Nat.not_lt.mpr (of_decide_eq_true hfull))
      unfold State.stopEvery
      rw [hcheck]
      rfl
    · intro checks
      refine ⟨fun code hfails => refuses (act := State.clear loader) rfl ?_, fun e hpass he hclass => ?_⟩
      · unfold State.clear
        rcases hfails with ⟨hvalue, rfl⟩ | ⟨hvalue, hfails⟩
        · simp [State.onEntry, State.badLoader_iff.mpr (show ¬ (_ ∧ loader.toNat ≠ s.taken.station) from hvalue)]
        obtain ⟨hstation, hother⟩ := not_not.mp hvalue
        have hbad : s.taken.badLoader loader = false := State.badLoader_eq_false hstation hother
        rcases hfails with ⟨hnone, rfl⟩ | ⟨hsome, hfails⟩
        · simp [State.onEntry, hbad, show s.taken.entry? loader.toNat = none from hnone]
        obtain ⟨e, he⟩ := Option.ne_none_iff_exists'.mp hsome
        rw [State.onEntry_of_held hbad he]
        unfold State.clearOf
        rw [(State.clearOf_decides (s := s.taken) he).1 code hfails]
        rfl
      · obtain ⟨hstation, hother⟩ := not_not.mp (hpass (badLoader, .badValue) (by simp [checks]))
        obtain ⟨hloader, -⟩ := State.entry?_some he
        obtain ⟨q, hsent, hjoined⟩ := State.sendClear_spec (s := s.taken) (e := e) hactive hclass
        rw [hloader] at hjoined
        have hact : s.taken.clear loader =
            ({ s.taken with discrete := { s.taken.discrete with clearUnsent := true }, liu := q }, { code := .ok }) := by
          unfold State.clear
          rw [State.onEntry_of_held (s := s.taken) (State.badLoader_eq_false hstation hother) he]
          unfold State.clearOf
          rw [(State.clearOf_decides (s := s.taken) he).2 fun c hc =>
            hpass c (List.mem_cons_of_mem _ (List.mem_cons_of_mem _ hc)), hsent]
          rfl
        obtain ⟨k, hrequest, hreplies⟩ := (h.admits 0x1B).posting tag hact (.refl _)
        exact ⟨k, q, congrArg _ hrequest, hjoined, hreplies⟩
  · obtain ⟨hgive, hjoined⟩ := State.giveStop_of_due (s := s.reach e.notBefore) (State.activeAs_iff.mp hchair).1 hfree
      hlist (Nat.le_max_right _ _) hclass
    refine ⟨_, ?_, hjoined⟩
    have hexec : exec .stopListDue s = .next ((s.reach e.notBefore).giveStop) := by
      show execStopListDue s = _
      simp [execStopListDue, hchair, hfree, hlist]
    rw [hexec, hgive]
    rfl

end Sys2Proof.Machine
end

/-!
PROOFS. The filtered edges of the inputs but CONFIRM pressed (R153 to R158, R162, R163, R166 to R169).
-/
section

namespace Sys2Proof.Machine

/-! ### Entries that join the stop list one after another (R167) -/

theorem joinAll_cons_room {e : StopEntry} {rest l : List StopEntry} (h : l.length < 32) :
    joinAll (e :: rest) l = joinAll rest (insertStop e l) := by
  simp [joinAll, h]

theorem joinAll_cons_full {e : StopEntry} {rest l : List StopEntry} (h : ¬ l.length < 32) :
    joinAll (e :: rest) l = joinAll rest l := by
  simp [joinAll, h]

/-- R167: TX_OVERFLOW, when more entries join a list than it has places for. -/
def overflowFlag (count length : Nat) : Half := if 32 < length + count ∧ count ≠ 0 then 0x0040 else 0

/-- R167: entries that wait in the list, or find it full. -/
theorem State.joinStops_waiting (new : List StopEntry) {s : State}
    (h : s.discrete.stopOutstanding = true ∨ 32 ≤ s.discrete.stopList.length) :
    ∃ k, new.foldl (fun t e => t.joinStop e) s =
        { s with discrete := { s.discrete with stopList := joinAll new s.discrete.stopList }, link := k } ∧
      s.link.Posts [] (overflowFlag new.length s.discrete.stopList.length) k := by
  induction new generalizing s with
  | nil => exact ⟨s.link, rfl, by simpa [overflowFlag] using Link.Posts.refl s.link⟩
  | cons e rest ih =>
    rw [List.foldl_cons]
    by_cases hroom : s.discrete.stopList.length < 32
    · have hwaits : s.discrete.stopOutstanding = true := h.resolve_right (Nat.not_le.mpr hroom)
      rw [State.joinStop_waiting hroom hwaits, joinAll_cons_room hroom]
      obtain ⟨k, hfold, hposts⟩ := ih
        (s := { s with discrete := { s.discrete with stopList := insertStop e s.discrete.stopList } }) (.inl hwaits)
      refine ⟨k, hfold, ?_⟩
      have hflag : overflowFlag rest.length (insertStop e s.discrete.stopList).length =
          overflowFlag (e :: rest).length s.discrete.stopList.length := by
        unfold overflowFlag
        rw [insertStop_length, List.length_cons]
        exact if_congr (by omega) rfl rfl
      exact hflag ▸ hposts
    · have hjoin : s.joinStop e = s.raise .txOverflow := if_neg (by exact hroom)
      rw [hjoin, joinAll_cons_full hroom]
      obtain ⟨k, hfold, hposts⟩ := ih (s := s.raise .txOverflow) h
      refine ⟨k, hfold, ?_⟩
      have hboth := (Link.raise_posts .txOverflow s.link).trans hposts
      have hflag : EventFlag.txOverflow.set ||| overflowFlag rest.length s.discrete.stopList.length =
          overflowFlag (e :: rest).length s.discrete.stopList.length := by
        have hlong : overflowFlag (e :: rest).length s.discrete.stopList.length = 0x0040 :=
          if_pos ⟨by rw [List.length_cons]; omega, by simp⟩
        rw [hlong]
        unfold overflowFlag
        split <;> decide
      exact hflag ▸ hboth

theorem State.stopFlags_waiting {l new : List StopEntry} {s : State}
    (h : s.discrete.stopOutstanding = true ∨ 32 ≤ l.length) : s.stopFlags l new = overflowFlag new.length l.length := by
  have hgiven : ¬ (s.discrete.stopOutstanding = false ∧ l.length < 32) := by
    rintro ⟨hfree, hroom⟩
    rcases h with h | h
    · rw [hfree] at h
      cases h
    · omega
  simp only [State.stopFlags, if_neg hgiven, overflowFlag, ← List.length_eq_zero_iff, ne_eq]
  exact if_congr (by omega) rfl rfl

theorem State.stopFlags_giving {l more : List StopEntry} {first : StopEntry} {s : State}
    (hfree : s.discrete.stopOutstanding = false) (hroom : l.length < 32) :
    s.stopFlags l (first :: more) = overflowFlag more.length l.length := by
  simp only [State.stopFlags, if_pos (And.intro hfree hroom), overflowFlag, List.length_cons]
  exact if_congr ⟨fun ⟨_, h⟩ => ⟨by omega, by omega⟩, fun ⟨h, _⟩ => ⟨by simp, by omega⟩⟩ rfl rfl

/-- R167: entries join a stop list, the first of them due. -/
theorem State.joinStops_spec {s : State} (hactive : s.active = true) (hclass : s.liu.classS.length < 2)
    (l new : List StopEntry) (hdue : ∀ e ∈ new.head?, e.notBefore ≤ s.now) :
    let t := new.foldl (fun t e => t.joinStop e) { s with discrete := { s.discrete with stopList := l } }
    s.StopsJoined l new t ∧ s.link.Posts [] (s.stopFlags l new) t.link := by
  intro t
  let u : State := { s with discrete := { s.discrete with stopList := l } }
  cases new with
  | nil =>
    have hnone : s.stopFlags l [] = 0 := by simp [State.stopFlags]
    exact ⟨⟨rfl, rfl, rfl, rfl⟩, by rw [hnone]; exact .refl s.link⟩
  | cons first more =>
    by_cases hwaits : s.discrete.stopOutstanding = true ∨ 32 ≤ l.length
    · obtain ⟨k, hfold, hposts⟩ := State.joinStops_waiting (first :: more) (s := u) hwaits
      rw [show t = _ from hfold, State.stopFlags_waiting hwaits]
      refine ⟨⟨rfl, ?_⟩, hposts⟩
      dsimp only
      rw [if_pos hwaits]
      exact ⟨rfl, rfl, rfl⟩
    · obtain ⟨hfree, hroom⟩ : s.discrete.stopOutstanding = false ∧ l.length < 32 := by
        simpa using not_or.mp hwaits
      obtain ⟨e, rest, hlist⟩ := List.exists_cons_of_length_pos (l := insertStop first l) (by simp)
      obtain ⟨q, hgive, hjoined⟩ := State.joinStop_giving (s := u) hactive hroom hfree hlist (hdue first rfl) hclass
      have hlength : rest.length = l.length := by
        have := congrArg List.length hlist
        simpa using this.symm
      obtain ⟨k, hfold, hposts⟩ := State.joinStops_waiting more
        (s := { u with discrete := { u.discrete with stopList := rest, stopOutstanding := true }, liu := q }) (.inl rfl)
      have ht : t = _ := (congrArg (more.foldl fun t e => t.joinStop e) hgive).trans hfold
      rw [ht, State.stopFlags_giving hfree hroom, ← hlength]
      refine ⟨⟨rfl, ?_⟩, hposts⟩
      dsimp only
      rw [if_neg hwaits, hlist]
      exact ⟨rfl, rfl, hjoined⟩

/-! ### The delivery of an edge (R156, R157) -/

/-- R156: an edge of a sampled input is delivered from the settled filter. -/
theorem State.exec_filteredEdge {s : State} {i : Input} {v : Bool} (hactive : s.active = true)
    (hsampled : isSampled s.startup.role i = true)
    (hedge : isEdge i (s.discrete.filter i) ⟨v, true, some ⟨v, 3⟩⟩ = true) :
    exec (.filteredEdge i v) s =
      .next (State.deliverEdge i v { s with discrete := s.discrete.setFilter i ⟨v, true, some ⟨v, 3⟩⟩ }) := by
  show execFilteredEdge i v s = _
  simp [execFilteredEdge, hactive, hsampled, hedge]

/-- R157: what the INPUT notice of an edge is. -/
def State.edgeNotices (i : Input) (v : Bool) (s : State) : List Notice :=
  if (s.settings.input i).edge = true ∧ v = false then [] else [.input i v]

theorem State.inputNotice_spec {s : State} (i : Input) (v : Bool) (hroom : s.link.notices.length < 32) :
    ∃ k, s.inputNotice i v = { s with link := k } ∧ s.link.Fills (s.edgeNotices i v) 0 k := by
  have hsame : ((s.settings.input i).edge = false ∨ v = true) ↔ ¬ ((s.settings.input i).edge = true ∧ v = false) := by
    cases (s.settings.input i).edge <;> cases v <;> simp
  unfold State.inputNotice State.edgeNotices
  by_cases hposts : (s.settings.input i).edge = true ∧ v = false
  · rw [if_neg (by rw [hsame]; exact not_not.mpr hposts), if_pos hposts]
    exact ⟨s.link, rfl, .refl _⟩
  · rw [if_pos (hsame.mpr hposts), if_neg hposts]
    exact ⟨_, rfl, State.post_fills hroom⟩

theorem isEdge_opens {before : InputFilter} (h : before.active = true ∨ before.settled = false) :
    isEdge .stopchain before ⟨false, true, some ⟨false, 3⟩⟩ = true := by
  rcases h with h | h <;> simp [isEdge, h]

theorem isEdge_of_ne {i : Input} {before : InputFilter} {v : Bool} (h : before.active ≠ v) :
    isEdge i before ⟨v, true, some ⟨v, 3⟩⟩ = true := by
  simp [isEdge, h]

theorem isSampled_chair {s : State} (h : s.activeAs .chair = true) (i : Input) :
    isSampled s.startup.role i = true := by
  simp [isSampled, (State.activeAs_iff.mp h).2]

theorem isSampled_stopchain (r : Role) : isSampled r .stopchain = true := by
  simp [isSampled]

/-- R156: an edge at a chair is delivered to its blocks after the INPUT notice. -/
theorem State.exec_edge_chair {s : State} {i : Input} {v : Bool} (hchair : s.activeAs .chair = true)
    (hedge : isEdge i (s.discrete.filter i) ⟨v, true, some ⟨v, 3⟩⟩ = true) (hroom : s.link.notices.length < 32) :
    ∃ k, s.link.Fills (s.edgeNotices i v) 0 k ∧ exec (.filteredEdge i v) s =
      .next (State.chairEdge i v
        { s with discrete := s.discrete.setFilter i ⟨v, true, some ⟨v, 3⟩⟩, link := k }) := by
  obtain ⟨hactive, hrole⟩ := State.activeAs_iff.mp hchair
  let u : State := { s with discrete := s.discrete.setFilter i ⟨v, true, some ⟨v, 3⟩⟩ }
  obtain ⟨k, hnotice, hfills⟩ := State.inputNotice_spec (s := u) i v hroom
  have hdeliver : u.deliverEdge i v = (u.inputNotice i v).chairEdge i v := by
    simp [State.deliverEdge, show u.startup.role = .chair from hrole]
  refine ⟨k, hfills, ?_⟩
  exact (State.exec_filteredEdge hactive (isSampled_chair hchair i) hedge).trans
    (congrArg _ (hdeliver.trans (congrArg _ hnotice)))

/-- R156: an edge of STOPCHAIN aboard a loader is delivered to its blocks after the INPUT notice. -/
theorem State.exec_edge_loader {s : State} {v : Bool} (hloader : s.activeAs .loader = true)
    (hedge : isEdge .stopchain s.discrete.stopchain ⟨v, true, some ⟨v, 3⟩⟩ = true)
    (hroom : s.link.notices.length < 32) :
    ∃ k, s.link.Fills (s.edgeNotices .stopchain v) 0 k ∧ exec (.filteredEdge .stopchain v) s =
      .next (State.loaderEdge .stopchain v
        { s with discrete := { s.discrete with stopchain := ⟨v, true, some ⟨v, 3⟩⟩ }, link := k }) := by
  obtain ⟨hactive, hrole⟩ := State.activeAs_iff.mp hloader
  let u : State := { s with discrete := s.discrete.setFilter .stopchain ⟨v, true, some ⟨v, 3⟩⟩ }
  obtain ⟨k, hnotice, hfills⟩ := State.inputNotice_spec (s := u) .stopchain v hroom
  have hdeliver : u.deliverEdge .stopchain v = (u.inputNotice .stopchain v).loaderEdge .stopchain v := by
    simp [State.deliverEdge, show u.startup.role = .loader from hrole]
  refine ⟨k, hfills, ?_⟩
  exact (State.exec_filteredEdge hactive (isSampled_stopchain _) hedge).trans
    (congrArg _ (hdeliver.trans (congrArg _ hnotice)))

/-- R157: an edge to inactive posts INPUT but for report type edge. -/
theorem State.edgeNotices_false (i : Input) (s : State) :
    s.edgeNotices i false = if (s.settings.input i).edge then [] else [.input i false] := by
  simp [State.edgeNotices]

theorem State.edgeNotices_true (i : Input) (s : State) : s.edgeNotices i true = [.input i true] := by
  simp [State.edgeNotices]

/-- R168: the entries of the chain stop. -/
theorem State.chainEntries_eq (s : State) (e : Entry) :
    s.chainEntries s.now e = [0, 1, 2].map fun copy => ⟨e.loader, 2, s.now + ms (copy * s.settings.p)⟩ := by
  simp [State.chainEntries, State.periods, stopChainReason, ms]

/-- R168: the chain stop at a chair. -/
theorem State.chainStop_spec {s : State} (hactive : s.active = true) (hclass : s.liu.classS.length < 2) :
    let kept := s.discrete.stopList.filter (·.reason ≠ 2)
    let burst := s.holds.entries.flatMap fun e =>
      [0, 1, 2].map fun copy => (⟨e.loader, 2, s.now + ms (copy * s.settings.p)⟩ : StopEntry)
    s.StopsJoined kept burst s.chainStop ∧ s.link.Posts [] (s.stopFlags kept burst) s.chainStop.link := by
  intro kept burst
  have hdue : ∀ e ∈ burst.head?, e.notBefore ≤ s.now := by
    intro e he
    cases hentries : s.holds.entries with
    | nil => simp [burst, hentries] at he
    | cons x rest =>
      have hfirst : (⟨x.loader, 2, s.now⟩ : StopEntry) = e := by simpa [burst, hentries, ms] using he
      rw [← hfirst]
  have hburst : s.holds.entries.flatMap (s.chainEntries s.now) = burst :=
    congrArg (s.holds.entries.flatMap ·) (funext s.chainEntries_eq)
  have hchain : s.chainStop = burst.foldl (fun t e => t.joinStop e)
      { s with discrete := { s.discrete with stopList := kept } } := by
    rw [← hburst]
    rfl
  rw [hchain]
  exact State.joinStops_spec hactive hclass kept burst hdue

/-- R169: the seat stop. -/
theorem State.seatStop_joining {s : State} {e : Entry} (hdrive : s.driveEntry? = some e)
    (hphase : (∃ o, e.phase = .held o) ∨ ∃ o, e.phase = .offering o) :
    s.seatStop = s.joinStop ⟨e.loader, 3, s.now⟩ := by
  rcases hphase with ⟨o, hphase⟩ | ⟨o, hphase⟩ <;> simp only [State.seatStop, hdrive, hphase] <;> rfl

theorem State.seatStop_silent {s : State}
    (h : ∀ e, s.driveEntry? = some e → ¬ ((∃ o, e.phase = .held o) ∨ ∃ o, e.phase = .offering o)) : s.seatStop = s := by
  unfold State.seatStop
  cases hdrive : s.driveEntry? with
  | none => rfl
  | some e =>
    have hphase := h e hdrive
    cases hp : e.phase with
    | held o => exact absurd (.inl ⟨o, hp⟩) hphase
    | offering o => exact absurd (.inr ⟨o, hp⟩) hphase
    | acquiring g out => simp [hp]
    | releasing out => simp [hp]
    | suspended => simp [hp]

/-- Settles O51: each edge is delivered from the settled filter, after its INPUT notice. -/
theorem aFilteredEdgeIsDelivered : Obligations.AFilteredEdgeIsDelivered := by
  refine ⟨fun s hloader hopens hroom => ?_, fun s hloader hopen hroom => ?_,
    fun s i v hchair hchanges hquiet hroom => ?_,
    fun s hchair hopens hclass hroom => ?_, fun s hchair hclosed hclass hroom => ?_⟩
  · obtain ⟨k, hfills, hexec⟩ :=
      State.exec_edge_loader hloader (isEdge_opens hopens) (Nat.lt_succ_of_lt hroom)
    have hlength := hfills.2
    have hone : (s.edgeNotices .stopchain false).length ≤ 1 := by
      unfold State.edgeNotices
      split <;> simp
    let w : State :=
      { s with
        discrete := { s.discrete with stopchain := ⟨false, true, some ⟨false, 3⟩⟩ }, link := k.raise .chainOpen }
    obtain ⟨hlatched, -, hposts⟩ :=
      State.setLatch_spec (s := w) (State.activeAs_iff.mp hloader).1 .localChain
    have hroom' : w.link.notices.length < 32 := by
      show (k.raise .chainOpen).notices.length < 32
      simp only [Link.raise_notices]
      omega
    refine ⟨w.setLatch .localChain, hexec, hlatched, ?_⟩
    have hall := (hfills.1.before (Link.raise_posts .chainOpen k)).trans (hposts hroom')
    rw [State.edgeNotices_false, List.append_nil] at hall
    exact hall
  · obtain ⟨k, hfills, hexec⟩ :=
      State.exec_edge_loader (v := true) hloader (isEdge_of_ne (by rw [hopen]; decide)) hroom
    let u : State := { s with discrete := { s.discrete with stopchain := ⟨true, true, some ⟨true, 3⟩⟩ }, link := k }
    have hmotion : u.motionCondition = (s.record.auth.current?.isSome && s.discrete.latch.isNone) := by
      simp [u, State.motionCondition, State.chainClosed, show u.activeAs .loader = true from hloader]
    refine ⟨k, ?_, ?_⟩
    · rw [hexec, ← hmotion]
      rfl
    · have hposts := hfills.1
      rwa [State.edgeNotices_true] at hposts
  · obtain ⟨k, hfills, hexec⟩ := State.exec_edge_chair hchair (isEdge_of_ne hchanges) hroom
    refine ⟨k, ?_, hfills.1⟩
    rcases hquiet with rfl | ⟨rfl, rfl⟩ | ⟨rfl, rfl⟩ | ⟨rfl, rfl⟩
    · cases v <;> exact hexec
    · exact hexec
    · exact hexec
    · exact hexec
  · intro kept burst
    obtain ⟨k, hfills, hexec⟩ := State.exec_edge_chair (i := .stopchain) hchair (isEdge_opens hopens) hroom
    obtain ⟨hjoined, hposts⟩ := State.chainStop_spec
      (s := { s with
        discrete := { s.discrete with stopchain := ⟨false, true, some ⟨false, 3⟩⟩ }, link := k.raise .chainOpen })
      (State.activeAs_iff.mp hchair).1 hclass
    refine ⟨_, hexec, hjoined, ?_⟩
    have hall := (hfills.1.before (Link.raise_posts .chainOpen k)).trans hposts
    rw [State.edgeNotices_false, List.append_nil, List.append_nil] at hall
    exact hall
  · intro stops opened notices
    have hcloses : (s.discrete.filter .seat).active ≠ false := by rw [Discrete.filter, hclosed]; decide
    obtain ⟨k, hfills, hexec⟩ := State.exec_edge_chair (i := .seat) (v := false) hchair (isEdge_of_ne hcloses) hroom
    have hnotices := hfills.1
    rw [State.edgeNotices_false] at hnotices
    refine ⟨fun e hdrive hphase => ?_, fun hnone => ?_⟩
    · let u : State := { opened with link := k }
      obtain ⟨hjoined, hposts⟩ := State.joinStops_spec (s := u) (State.activeAs_iff.mp hchair).1 hclass
        s.discrete.stopList [⟨e.loader, 3, s.now⟩] (by
          intro x hx
          cases hx
          exact Nat.le_refl _)
      refine ⟨_, hexec.trans (congrArg _ (State.seatStop_joining (s := u) hdrive hphase)), hjoined, ?_⟩
      have hall := hnotices.before hposts
      rw [List.append_nil] at hall
      exact hall
    · exact ⟨k, hexec.trans (congrArg _ (State.seatStop_silent (s := { opened with link := k }) hnone)), hnotices⟩

end Sys2Proof.Machine
end

/-!
PROOFS. Samples of the filtered inputs (R153 to R156).
-/
section

namespace Sys2Proof.Machine

/-! ### A filter that takes a sample (R154) -/

theorem InputFilter.sample_eq_taking (v : Bool) (f : InputFilter) : f.sample v = f.taking v := by
  unfold InputFilter.sample InputFilter.taking nextRun
  cases f.run with
  | none => rfl
  | some r =>
    by_cases hsame : r.value = v
    · by_cases hcount : r.count < 2
      · have hmin : min 3 (r.count + 1) = r.count + 1 := by omega
        simp [hsame, hcount, hmin, show r.count + 1 ≠ 3 by omega]
      · have hmin : min 3 (r.count + 1) = 3 := by omega
        simp [hsame, hcount, hmin]
    · simp [hsame]

theorem InputFilter.taking_of_turns {i : Input} {v : Bool} {f : InputFilter} (h : f.Turns i v) :
    f.taking v = ⟨v, true, some ⟨v, 3⟩⟩ := by
  obtain ⟨⟨r, hrun, hvalue, hcount⟩, -⟩ := h
  simp [InputFilter.taking, hrun, hvalue, show ¬ r.count < 2 by omega]

/-- R154: before the third equal sample the filtered state stays. -/
theorem InputFilter.taking_unsettled {v : Bool} {f : InputFilter}
    (h : ¬ ∃ r, f.run = some r ∧ r.value = v ∧ 2 ≤ r.count) :
    (f.taking v).active = f.active ∧ (f.taking v).settled = f.settled := by
  unfold InputFilter.taking
  cases hrun : f.run with
  | none => exact ⟨rfl, rfl⟩
  | some r =>
    by_cases hvalue : r.value = v
    · have hcount : r.count < 2 := Nat.lt_of_not_le fun hmany => h ⟨r, hrun, hvalue, hmany⟩
      simp [hvalue, hcount]
    · simp [hvalue]

theorem isEdge_same {i : Input} {before after : InputFilter} (hactive : after.active = before.active)
    (hsettled : after.settled = before.settled) : isEdge i before after = false := by
  simp [isEdge, hactive, hsettled]

theorem InputFilter.isEdge_taking {i : Input} {v : Bool} {f : InputFilter} :
    isEdge i f (f.taking v) = true ↔ f.Turns i v := by
  by_cases hthird : ∃ r, f.run = some r ∧ r.value = v ∧ 2 ≤ r.count
  · obtain ⟨r, hrun, hvalue, hcount⟩ := hthird
    have htaken : f.taking v = ⟨v, true, some ⟨v, 3⟩⟩ := by
      simp [InputFilter.taking, hrun, hvalue, show ¬ r.count < 2 by omega]
    have hrun' : ∃ r, f.run = some r ∧ r.value = v ∧ 2 ≤ r.count := ⟨r, hrun, hvalue, hcount⟩
    simp [htaken, isEdge, InputFilter.Turns, hrun', and_assoc]
  · obtain ⟨hactive, hsettled⟩ := InputFilter.taking_unsettled hthird
    rw [isEdge_same hactive hsettled]
    exact ⟨fun h => absurd h (by decide), fun h => absurd h.1 hthird⟩

/-! ### The filters after a sample of every input (R153, R154) -/

@[simp] theorem Discrete.setFilter_filter (i : Input) (d : Discrete) : d.setFilter i (d.filter i) = d := by
  cases i <;> rfl

/-- The level of a pin in a sample. -/
def pinLevel (chain in2 in3 in4 : Bool) : Input → Bool
  | .stopchain => chain | .seat => in2 | .deadman => in3 | .confirm => in4

/-- R154: the filter of an input after a sample. -/
def State.takenFilter (i : Input) (level : Bool) (s : State) : InputFilter :=
  if isSampled s.startup.role i then (s.discrete.filter i).taking (level != (s.settings.input i).inverted)
  else s.discrete.filter i

/-- The unit with the filter of every input replaced. -/
def State.withFilters (f : Input → InputFilter) (s : State) : State :=
  { s with discrete := { s.discrete with
      stopchain := f .stopchain, seat := f .seat, deadman := f .deadman, confirm := f .confirm } }

theorem State.sampleInput_eq (i : Input) (level : Bool) (s : State) :
    s.sampleInput i level = { s with discrete := s.discrete.setFilter i (s.takenFilter i level) } := by
  unfold State.sampleInput State.takenFilter
  split
  · rw [InputFilter.sample_eq_taking]
  · rw [Discrete.setFilter_filter]

/-- R156: the edges that a sample has made, delivered in the order of the pins. -/
def State.deliverAll (before : Discrete) (s : State) : State :=
  (((s.deliverSampled before .stopchain).deliverSampled before .seat).deliverSampled before .deadman).deliverSampled
    before .confirm

theorem State.takeSample_eq (a b c d : Bool) (s : State) :
    s.takeSample a b c d = (s.withFilters fun i => s.takenFilter i (pinLevel a b c d i)).deliverAll s.discrete := by
  unfold State.takeSample
  simp only [State.sampleInput_eq]
  rfl

/-! ### What the delivery of an edge leaves of the filters (R156) -/

/-- Every filter of `t` is that of `s`. -/
def State.SameFilters (s t : State) : Prop := ∀ i, t.discrete.filter i = s.discrete.filter i

theorem State.SameFilters.of_discrete {s t : State} (h : t.discrete = s.discrete) : s.SameFilters t := by
  intro i
  rw [h]

theorem State.SameFilters.trans {s t u : State} (hst : s.SameFilters t) (htu : t.SameFilters u) : s.SameFilters u :=
  fun i => (htu i).trans (hst i)

/-- Only the fields beside the filters have changed. -/
theorem State.SameFilters.of_fields {s t : State} (hchain : t.discrete.stopchain = s.discrete.stopchain)
    (hseat : t.discrete.seat = s.discrete.seat) (hdeadman : t.discrete.deadman = s.discrete.deadman)
    (hconfirm : t.discrete.confirm = s.discrete.confirm) : s.SameFilters t := by
  intro i
  cases i
  · exact hchain
  · exact hseat
  · exact hdeadman
  · exact hconfirm

theorem State.sameFilters_inputNotice (i : Input) (v : Bool) (s : State) : s.SameFilters (s.inputNotice i v) := by
  unfold State.inputNotice
  split <;> exact .of_discrete rfl

theorem State.sameFilters_giveStop (s : State) : s.SameFilters s.giveStop := by
  unfold State.giveStop
  split
  · exact .of_discrete rfl
  · cases s.discrete.stopList with
    | nil => exact .of_discrete rfl
    | cons e rest =>
      dsimp only
      split
      · exact .of_fields (by simp) (by simp) (by simp) (by simp)
      · exact .of_discrete rfl

theorem State.sameFilters_joinStop (e : StopEntry) (s : State) : s.SameFilters (s.joinStop e) := by
  unfold State.joinStop
  split
  · exact (State.SameFilters.of_fields rfl rfl rfl rfl).trans (State.sameFilters_giveStop _)
  · exact .of_discrete rfl

theorem State.sameFilters_joinStops (new : List StopEntry) (s : State) :
    s.SameFilters (new.foldl (fun t e => t.joinStop e) s) := by
  induction new generalizing s with
  | nil => exact .of_discrete rfl
  | cons e rest ih => exact (State.sameFilters_joinStop e s).trans (ih _)

theorem State.sameFilters_chainStop (s : State) : s.SameFilters s.chainStop := by
  unfold State.chainStop
  exact (State.SameFilters.of_fields rfl rfl rfl rfl).trans (State.sameFilters_joinStops _ _)

theorem State.sameFilters_seatStop (s : State) : s.SameFilters s.seatStop := by
  unfold State.seatStop
  cases s.driveEntry? with
  | none => exact .of_discrete rfl
  | some e =>
    dsimp only
    split
    · exact State.sameFilters_joinStop _ s
    · exact State.sameFilters_joinStop _ s
    all_goals exact .of_discrete rfl

theorem State.sameFilters_setLatch (cause : StopCause) (s : State) : s.SameFilters (s.setLatch cause) := by
  unfold State.setLatch
  dsimp only
  split <;> exact .of_fields (by simp) (by simp) (by simp) (by simp)

theorem State.sameFilters_deliverEdge {i : Input} (hi : i ≠ .confirm) (v : Bool) (s : State) :
    s.SameFilters (s.deliverEdge i v) := by
  have hnotice := State.sameFilters_inputNotice i v s
  have hraised (t : State) : t.SameFilters (t.raise .chainOpen) := .of_discrete rfl
  unfold State.deliverEdge
  dsimp only
  cases s.startup.role with
  | loader =>
    cases i with
    | stopchain =>
      cases v with
      | false => exact (hnotice.trans (hraised _)).trans (State.sameFilters_setLatch _ _)
      | true => exact hnotice.trans (.of_fields rfl rfl rfl rfl)
    | seat => exact hnotice
    | deadman => exact hnotice
    | confirm => exact hnotice
  | chair =>
    cases i with
    | stopchain =>
      cases v with
      | false => exact (hnotice.trans (hraised _)).trans (State.sameFilters_chainStop _)
      | true => exact hnotice
    | seat =>
      cases v with
      | false => exact hnotice.trans (State.sameFilters_seatStop _)
      | true => exact hnotice
    | deadman => exact hnotice
    | confirm => exact absurd rfl hi

/-! ### The deliveries after a sample (R156) -/

/-- The input has no edge from `before` to the filters of `s`. -/
def State.Quiet (before : Discrete) (s : State) (i : Input) : Prop :=
  isEdge i (before.filter i) (s.discrete.filter i) = false

theorem State.Quiet.of_same {before : Discrete} {s t : State} {i : Input} (h : s.Quiet before i)
    (hsame : s.SameFilters t) : t.Quiet before i := by
  unfold State.Quiet
  rw [hsame i]
  exact h

theorem State.deliverSampled_quiet {before : Discrete} {s : State} {i : Input} (h : s.Quiet before i) :
    s.deliverSampled before i = s :=
  if_neg (by rw [show isEdge i (before.filter i) (s.discrete.filter i) = false from h]; decide)

theorem State.deliverAll_quiet {before : Discrete} {s : State} (h : ∀ i, s.Quiet before i) :
    s.deliverAll before = s := by
  simp only [State.deliverAll, State.deliverSampled_quiet (h _)]

/-- R156: with one edge alone, that edge is delivered. -/
theorem State.deliverAll_single {before : Discrete} {s : State} {i : Input}
    (hedge : isEdge i (before.filter i) (s.discrete.filter i) = true) (h : ∀ j, j ≠ i → s.Quiet before j) :
    s.deliverAll before = s.deliverEdge i (s.discrete.filter i).active := by
  have hone : s.deliverSampled before i = s.deliverEdge i (s.discrete.filter i).active := if_pos hedge
  have hrest (hi : i ≠ .confirm) (j : Input) (hj : j ≠ i) :
      (s.deliverEdge i (s.discrete.filter i).active).deliverSampled before j =
        s.deliverEdge i (s.discrete.filter i).active :=
    State.deliverSampled_quiet ((h j hj).of_same (State.sameFilters_deliverEdge hi _ s))
  unfold State.deliverAll
  cases i with
  | stopchain =>
    rw [hone, hrest (by decide) .seat (by decide), hrest (by decide) .deadman (by decide),
      hrest (by decide) .confirm (by decide)]
  | seat =>
    rw [State.deliverSampled_quiet (h .stopchain (by decide)), hone, hrest (by decide) .deadman (by decide),
      hrest (by decide) .confirm (by decide)]
  | deadman =>
    rw [State.deliverSampled_quiet (h .stopchain (by decide)), State.deliverSampled_quiet (h .seat (by decide)), hone,
      hrest (by decide) .confirm (by decide)]
  | confirm =>
    rw [State.deliverSampled_quiet (h .stopchain (by decide)), State.deliverSampled_quiet (h .seat (by decide)),
      State.deliverSampled_quiet (h .deadman (by decide)), hone]

theorem State.exec_inputSample {s : State} {due : Nat} (a b c d : Bool) (hactive : s.active = true)
    (hdue : s.discrete.nextSample = some due) :
    exec (.inputSample a b c d) s = .next (State.takeSample a b c d
      { s.reach due with discrete := { s.discrete with nextSample := some (max s.now due + ms 5) } }) := by
  show execInputSample a b c d s = _
  unfold execInputSample
  simp only [hactive, hdue]
  rfl

/-- R154, R155: the filter of an input has an edge at a sample when the input turns. -/
theorem State.takenFilter_edge {s : State} {i : Input} {level : Bool} :
    isEdge i (s.discrete.filter i) (s.takenFilter i level) = true ↔
      isSampled s.startup.role i = true ∧
        (s.discrete.filter i).Turns i (level != (s.settings.input i).inverted) := by
  unfold State.takenFilter
  by_cases hsampled : isSampled s.startup.role i = true
  · simp [hsampled, InputFilter.isEdge_taking]
  · simp [hsampled, isEdge_same]

/-- Settles O52: with no edge the deliveries do nothing, and with one alone that edge is delivered. -/
theorem aSampleMovesTheFilters : Obligations.ASampleMovesTheFilters := by
  intro s due chain in2 in3 in4 hactive hdue sampled value taken turns next sample
  let timed : State :=
    { s.reach due with discrete := { s.discrete with nextSample := some (max s.now due + ms 5) } }
  have hsampled (i : Input) : isSampled s.startup.role i = true ↔ sampled i := decide_eq_true_iff
  have htaken : (fun i => timed.takenFilter i (pinLevel chain in2 in3 in4 i)) = taken := by
    funext i
    cases i <;> exact if_congr (hsampled _) rfl rfl
  have hsample : sample = .next ((next taken).deliverAll timed.discrete) := by
    refine (State.exec_inputSample _ _ _ _ hactive hdue).trans (congrArg _ ?_)
    rw [State.takeSample_eq]
    exact congrArg (fun f => (timed.withFilters f).deliverAll timed.discrete) htaken
  have hfilter (f : Input → InputFilter) (i : Input) : (next f).discrete.filter i = f i := by cases i <;> rfl
  have hbefore (i : Input) : timed.discrete.filter i = s.discrete.filter i := by cases i <;> rfl
  have hedge (i : Input) : isEdge i (timed.discrete.filter i) ((next taken).discrete.filter i) = true ↔ turns i := by
    rw [hfilter, ← htaken, State.takenFilter_edge, hbefore]
    exact and_congr (hsampled i) Iff.rfl
  have hquiet (i : Input) (h : ¬ turns i) : (next taken).Quiet timed.discrete i :=
    Bool.eq_false_iff.mpr fun he => h ((hedge i).mp he)
  refine ⟨fun hnone => ?_, fun i hturns hothers => ?_⟩
  · rw [hsample, State.deliverAll_quiet fun i => hquiet i (hnone i)]
  · have hfull : taken i = ⟨value i, true, some ⟨value i, 3⟩⟩ :=
      (if_pos hturns.1).trans (InputFilter.taking_of_turns hturns.2)
    rw [hsample, State.deliverAll_single ((hedge i).mpr hturns) fun j hj => hquiet j (hothers j hj), hfilter, hfull]
    let former (j : Input) : InputFilter := if j = i then s.discrete.filter i else taken j
    let u : State := next former
    have hold : u.discrete.filter i = s.discrete.filter i := (hfilter former i).trans (if_pos rfl)
    have huedge : isEdge i (u.discrete.filter i) ⟨value i, true, some ⟨value i, 3⟩⟩ = true := by
      rw [hold, ← hbefore, ← hfull, ← hfilter taken]
      exact (hedge i).mpr hturns
    have hback : { u with discrete := u.discrete.setFilter i ⟨value i, true, some ⟨value i, 3⟩⟩ } = next taken := by
      rw [← hfull]
      cases i <;> rfl
    rw [State.exec_filteredEdge (s := u) hactive ((hsampled i).mpr hturns.1) huedge, hback]

end Sys2Proof.Machine
end

/-!
PROOFS. The CONFIRM edge: a gesture that is carried out, fails or is abandoned (R62, R95, R97 to R101).
-/
section

namespace Sys2Proof.Machine

/-! ### The conditions of R99 -/

theorem State.axesStale_iff {s : State} :
    s.axesStale = true ↔ ∀ a, s.relay.axes = some a → ms (3 * s.settings.p) < s.now - a.arrived := by
  refine ⟨fun hstale a haxes => ?_, State.axesStale_of_late⟩
  by_contra hearly
  rw [(State.axesStale_eq_false haxes).mpr (Nat.not_lt.mp hearly)] at hstale
  cases hstale

theorem State.axesNeutral_iff {s : State} :
    s.axesNeutral = true ↔ ∃ a, s.relay.axes = some a ∧
      a.steer.natAbs ≤ 5 ∧ a.travel.natAbs ≤ 5 ∧ a.boom.natAbs ≤ 5 ∧ a.bucket.natAbs ≤ 5 := by
  cases haxes : s.relay.axes with
  | none => simp [State.axesNeutral, haxes]
  | some a => simp [State.axesNeutral, haxes, Axes.neutral]

/-- R99: the conditions of a CONFIRM edge, in their order, each with the cause that it gives when it fails. -/
def State.gestureConditions (s : State) : List (Prop × GestureCause) :=
  [(s.discrete.seat.active = false, .seatOpen), (s.discrete.deadman.active = false, .deadmanReleased),
    (∀ a, s.relay.axes = some a → ms (3 * s.settings.p) < s.now - a.arrived, .axesStale),
    (¬ ∃ a, s.relay.axes = some a ∧
      a.steer.natAbs ≤ 5 ∧ a.travel.natAbs ≤ 5 ∧ a.boom.natAbs ≤ 5 ∧ a.bucket.natAbs ≤ 5, .axesNotNeutral)]

/-- R99, R100: the first condition that fails ends the gesture. -/
theorem State.confirmPressed_fails {s : State} {g : Gesture} {c : GestureCause} (hgesture : s.board.gesture = some g)
    (h : FirstFails s.gestureConditions c) : s.confirmPressed = s.failGesture c := by
  simp only [State.gestureConditions, ← State.axesStale_iff, ← State.axesNeutral_iff] at h
  rcases h with ⟨hseat, rfl⟩ | ⟨hseat,
    ⟨hdeadman, rfl⟩ | ⟨hdeadman, ⟨hstale, rfl⟩ | ⟨hfresh, ⟨haxes, rfl⟩ | ⟨-, hnone⟩⟩⟩⟩
  · simp [State.confirmPressed, hgesture, hseat]
  · simp [State.confirmPressed, hgesture, hseat, hdeadman]
  · simp [State.confirmPressed, hgesture, hseat, hdeadman, hstale]
  · simp [State.confirmPressed, hgesture, hseat, hdeadman, hfresh, haxes]
  · exact hnone.elim

/-- R99: with every condition met the gesture is complete. -/
theorem State.confirmPressed_completes {s : State} {g : Gesture} (hgesture : s.board.gesture = some g)
    (h : ∀ c ∈ s.gestureConditions, ¬ c.1) : s.confirmPressed = s.completeGesture g := by
  simp only [State.gestureConditions, ← State.axesStale_iff, ← State.axesNeutral_iff, List.forall_mem_cons] at h
  obtain ⟨hseat, hdeadman, hfresh, haxes, -⟩ := h
  simp only [Bool.not_eq_true] at hseat hdeadman hfresh haxes
  simp [State.confirmPressed, hgesture, hseat, hdeadman, hfresh, haxes]

/-! ### The edge (R156) and the completion (R62, R95, R99) -/

/-- R154: CONFIRM pressed, with a Local Link of its own. -/
def State.pressed (k : Link) (s : State) : State :=
  { s with discrete := { s.discrete with confirm := ⟨true, true, some ⟨true, 3⟩⟩ }, link := k }

/-- R98: no gesture is armed. -/
def State.unarmed (s : State) : State := { s with board := { s.board with gesture := none } }

/-- R62, R95: what the completion of a gesture carries out. -/
def State.carryGesture (g : Gesture) (s : State) : State :=
  match g.request with
  | .acceptItem => s.completeAcceptance g.loader
  | .claim => s.completeNew g.loader
  | .reclaim => s.completeReclaim g.loader
  | .setMode => s.completeMode g.loader

theorem State.completeGesture_eq (g : Gesture) (s : State) :
    s.completeGesture g = (s.unarmed.post (.gestureDone g.loader g.request)).carryGesture g := rfl

theorem State.exec_confirm {s : State} (hchair : s.activeAs .chair = true)
    (hconfirm : s.discrete.confirm.active = false)
    (hroom : s.link.notices.length < 32) :
    ∃ k, s.link.Fills [.input .confirm true] 0 k ∧
      exec (.filteredEdge .confirm true) s = .next (s.pressed k).confirmPressed := by
  have hpresses : (s.discrete.filter .confirm).active ≠ true := by
    rw [Discrete.filter, hconfirm]
    decide
  obtain ⟨k, hfills, hexec⟩ := State.exec_edge_chair (i := .confirm) (v := true) hchair (isEdge_of_ne hpresses) hroom
  rw [State.edgeNotices_true] at hfills
  exact ⟨k, hfills, hexec⟩

/-- R99: the edge that meets every condition posts GESTURE_DONE and carries the request out. -/
theorem State.exec_confirm_done {s : State} {g : Gesture} (hchair : s.activeAs .chair = true)
    (hconfirm : s.discrete.confirm.active = false) (hgesture : s.board.gesture = some g)
    (hconditions : ∀ c ∈ s.gestureConditions, ¬ c.1) (hroom : s.link.notices.length < 30) :
    ∃ k, s.link.Fills [.input .confirm true, .gestureDone g.loader g.request] 0 k ∧
      exec (.filteredEdge .confirm true) s = .next ((s.unarmed.pressed k).carryGesture g) := by
  obtain ⟨k, hfills, hexec⟩ := State.exec_confirm hchair hconfirm (by omega)
  have hlength : k.notices.length ≤ s.link.notices.length + 1 := hfills.2
  have hdone := State.post_fills (n := .gestureDone g.loader g.request) (s := (s.pressed k).unarmed)
    (by show k.notices.length < 32; omega)
  refine ⟨_, hfills.then hdone, ?_⟩
  rw [hexec, State.confirmPressed_completes (s := s.pressed k) hgesture hconditions, State.completeGesture_eq]
  rfl

/-! ### The checks at the completion (R62, R95) -/

section completion
variable {s : State} {l : Nat}

theorem State.abandon_spec (l : Nat) (c : ResultCode) (hroom : s.link.notices.length < 32) :
    ∃ k, s.abandon l c = { s with link := k } ∧ s.link.Fills [.claimAbandoned l .drive c] 0 k :=
  ⟨_, State.tell_frame _ s, State.tell_fills (n := .claimAbandoned l .drive c) hroom⟩

theorem State.driveCheck_drive_decides (l : Nat) :
    Decides [(∃ e ∈ s.holds.entries, e.mode = .drive ∧ e.loader ≠ l, .driveBusy)] (s.driveCheck l .drive) := by
  simpa using State.driveCheck_decides (s := s) l .drive

/-- R62: the checks of a claim of a new loader. -/
theorem State.completeNew_decides (l : Nat) :
    Decides
      ([(s.entry? l ≠ none, .alreadyHeld)] ++
        [(s.holds.posture = .vacant, .vacant), (s.holds.posture = .standingDown, .standingDown),
          (s.discrete.stopchain.active = false, .chainOpen)] ++
        [(6 ≤ s.holds.entries.length, .tableFull),
          (∃ e ∈ s.holds.entries, e.mode = .drive ∧ e.loader ≠ l, .driveBusy)])
      (firstFailure [failIf (s.isHeld l) .alreadyHeld, s.postureCheck, s.chainCheck, s.roomCheck,
        s.driveCheck l .drive]) :=
  (decides_failIf (State.isHeld_iff l)).join (State.postureCheck_decides.join (State.chainCheck_decides.join
    (State.roomCheck_decides.join (State.driveCheck_drive_decides l).last)))

/-- R62: the checks of a reclaim and of a change of mode, behind the one of the entry's phase. -/
theorem State.completeAgain_decides {p : Prop} {b : Bool} (h : b = true ↔ p) (l : Nat) :
    Decides
      [(p, .wrongPhase), (s.holds.posture = .vacant, .vacant), (s.holds.posture = .standingDown, .standingDown),
        (s.discrete.stopchain.active = false, .chainOpen),
        (∃ e ∈ s.holds.entries, e.mode = .drive ∧ e.loader ≠ l, .driveBusy)]
      (firstFailure [failIf b .wrongPhase, s.postureCheck, s.chainCheck, s.driveCheck l .drive]) :=
  (decides_failIf h).join (State.postureCheck_decides.join (State.chainCheck_decides.join
    (State.driveCheck_drive_decides l).last))

theorem State.completeNew_abandoned {code : ResultCode}
    (h : FirstFails
      ([(s.entry? l ≠ none, .alreadyHeld)] ++
        [(s.holds.posture = .vacant, .vacant), (s.holds.posture = .standingDown, .standingDown),
          (s.discrete.stopchain.active = false, .chainOpen)] ++
        [(6 ≤ s.holds.entries.length, .tableFull),
          (∃ e ∈ s.holds.entries, e.mode = .drive ∧ e.loader ≠ l, .driveBusy)]) code) :
    s.completeNew l = s.abandon l code := by
  simp only [State.completeNew, (State.completeNew_decides l).1 code h]

/-- R62: the checks of a reclaim, the entry first. -/
theorem State.completeReclaim_abandoned {code : ResultCode}
    (h : FirstFails
      ([(s.entry? l = none, .notHeld), (∀ e, s.entry? l = some e → e.phase ≠ .suspended, .wrongPhase)] ++
        [(s.holds.posture = .vacant, .vacant), (s.holds.posture = .standingDown, .standingDown),
          (s.discrete.stopchain.active = false, .chainOpen)] ++
        [(∃ e ∈ s.holds.entries, e.mode = .drive ∧ e.loader ≠ l, .driveBusy)]) code) :
    s.completeReclaim l = s.abandon l code := by
  rcases h with ⟨hnone, rfl⟩ | ⟨hheld, hrest⟩
  · simp only [State.completeReclaim, hnone]
  · obtain ⟨e, he⟩ := Option.ne_none_iff_exists'.mp hheld
    have hphase : decide (e.phase ≠ .suspended) = true ↔ ∀ e', s.entry? l = some e' → e'.phase ≠ .suspended := by
      simp [he]
    simp only [State.completeReclaim, he, (State.completeAgain_decides hphase l).1 code hrest]

/-- R62, R63: the checks of a change of mode, the entry first. -/
theorem State.completeMode_abandoned {code : ResultCode}
    (h : FirstFails
      [(s.entry? l = none, .notHeld), (∀ e, s.entry? l = some e → ∀ o, e.phase ≠ .held o, .wrongPhase),
        (∃ e ∈ s.holds.entries, e.mode = .drive ∧ e.loader ≠ l, .driveBusy)] code) :
    s.completeMode l = s.abandon l code := by
  rcases h with ⟨hnone, rfl⟩ | ⟨hheld, hrest⟩
  · simp only [State.completeMode, hnone]
  · obtain ⟨e, he⟩ := Option.ne_none_iff_exists'.mp hheld
    have hphase : (!e.phase.isHeld) = true ↔ ∀ e', s.entry? l = some e' → ∀ o, e'.phase ≠ .held o := by
      rw [Bool.not_eq_true', ← Bool.not_eq_true, Phase.isHeld_iff]
      simp [he]
    have hdecides := (decides_failIf (c := .wrongPhase) hphase).join (State.driveCheck_drive_decides (s := s) l).last
    simp only [State.completeMode, he, hdecides.1 code hrest]

theorem firstFails_of_map {α β : Type} {f : α → β} {checks : List (Prop × α)} {c : β}
    (h : FirstFails (checks.map fun x => (x.1, f x.2)) c) : ∃ a, FirstFails checks a ∧ f a = c := by
  induction checks with
  | nil => exact h.elim
  | cons x rest ih =>
    rcases h with ⟨hfailed, rfl⟩ | ⟨hpassed, hrest⟩
    · exact ⟨x.2, .inl ⟨hfailed, rfl⟩, rfl⟩
    · obtain ⟨a, ha, hc⟩ := ih hrest
      exact ⟨a, .inr ⟨hpassed, ha⟩, hc⟩

/-- R95: the checks of an acceptance that can fail in posture ACTIVE with the item presented. -/
theorem State.completeAcceptance_decides (l : Nat) :
    Decides
      [(s.discrete.stopchain.active = false, .chainOpen), (6 ≤ s.holds.entries.length, .tableFull),
        (∃ e ∈ s.holds.entries, e.mode = .drive ∧ e.loader ≠ l, .driveBusy)]
      (firstFailure [s.chainCheck, s.roomCheck, s.driveCheck l .drive]) :=
  State.chainCheck_decides.join (State.roomCheck_decides.join (State.driveCheck_drive_decides l).last)

/-- R95: an acceptance in posture ACTIVE, the item presented, fails with the cause of its first check that fails. -/
theorem State.completeAcceptance_fails {i : Item} {c : GestureCause} (hposture : s.holds.posture = .active)
    (hpresented : s.presented? = some i) (hloader : i.loader = l)
    (h : FirstFails
      [(s.discrete.stopchain.active = false, .chainOpen), (6 ≤ s.holds.entries.length, .tableFull),
        (∃ e ∈ s.holds.entries, e.mode = .drive ∧ e.loader ≠ l, .driveBusy)] c) :
    s.completeAcceptance l = s.post (.gestureFailed l .acceptItem c) := by
  obtain ⟨code, hfails, hcause⟩ := firstFails_of_map (f := failedCause) (c := c)
    (checks := [(s.discrete.stopchain.active = false, .chainOpen), (6 ≤ s.holds.entries.length, .tableFull),
        (∃ e ∈ s.holds.entries, e.mode = .drive ∧ e.loader ≠ l, .driveBusy)]) h
  have hfirst : firstFailure [s.postureCheck, s.chainCheck, failIf (decide (i.loader ≠ l)) .notPresented, s.roomCheck,
      s.driveCheck l .drive] = some code := by
    rw [← (State.completeAcceptance_decides l).1 code hfails]
    simp [firstFailure_cons, State.postureCheck_passes hposture, failIf, hloader]
  simp only [State.completeAcceptance, hpresented, hfirst, hcause]

end completion

/-- R62, R95: an edge whose completion only posts one notice more. -/
theorem State.exec_confirm_posting {s : State} {g : Gesture} {n : Notice} (hchair : s.activeAs .chair = true)
    (hconfirm : s.discrete.confirm.active = false) (hgesture : s.board.gesture = some g)
    (hconditions : ∀ c ∈ s.gestureConditions, ¬ c.1) (hroom : s.link.notices.length < 30)
    (hcarry : ∀ k, k.notices.length < 32 → ∃ k', (s.unarmed.pressed k).carryGesture g = s.unarmed.pressed k' ∧
      k.Fills [n] 0 k') :
    ∃ k, exec (.filteredEdge .confirm true) s = .next (s.unarmed.pressed k) ∧
      s.link.Posts [.input .confirm true, .gestureDone g.loader g.request, n] 0 k := by
  obtain ⟨k, hfills, hexec⟩ := State.exec_confirm_done hchair hconfirm hgesture hconditions hroom
  have hlength : k.notices.length ≤ s.link.notices.length + 2 := hfills.2
  obtain ⟨k', hcarried, hposts⟩ := hcarry k (by omega)
  exact ⟨k', by rw [hexec, hcarried], hfills.1.before hposts.1⟩

/-- Settles O43: the conditions of the edge decide in their order, and the checks of the request after them. -/
theorem aGestureFailsOrIsAbandoned : Obligations.AGestureFailsOrIsAbandoned := by
  intro s hchair hconfirm hroom ends done stale neutral conditions
  obtain ⟨k, hfills, hexec⟩ := State.exec_confirm hchair hconfirm (by omega)
  have hlength : k.notices.length ≤ s.link.notices.length + 1 := hfills.2
  refine ⟨fun hnone => ?_, fun g hgesture => ⟨fun cause hfails => ?_, fun hpass => ?_⟩⟩
  · refine ⟨k, ?_, hfills.1⟩
    rw [hexec]
    simp only [State.confirmPressed, State.pressed, hnone]
  · have hfailed := State.failGesture_fills (s := s.pressed k) hgesture cause (by show k.notices.length < 32; omega)
    refine ⟨_, ?_, hfills.1.before hfailed.1⟩
    rw [hexec, State.confirmPressed_fails (s := s.pressed k) hgesture hfails]
    exact congrArg _ (State.failGesture_frame cause (s.pressed k))
  · intro l posture driveBusy abandoned
    have abandons (code : ResultCode) (hcarry : ∀ k, (s.unarmed.pressed k).carryGesture g =
        (s.unarmed.pressed k).abandon l code) :
        ends done [.gestureDone l g.request, .claimAbandoned l .drive code] :=
      State.exec_confirm_posting hchair hconfirm hgesture hpass hroom fun k hk => by
        obtain ⟨k', habandon, hposts⟩ := State.abandon_spec (s := s.unarmed.pressed k) l code hk
        exact ⟨k', (hcarry k).trans habandon, hposts⟩
    refine ⟨fun hrequest code hfails => abandons code fun k => ?_,
      fun hrequest code hfails => abandons code fun k => ?_, fun hrequest code hfails => abandons code fun k => ?_,
      fun i cause hrequest hposture hpresented hloader hfails => ?_⟩
    · rw [State.carryGesture, hrequest]
      exact State.completeNew_abandoned (s := s.unarmed.pressed k) hfails
    · rw [State.carryGesture, hrequest]
      exact State.completeReclaim_abandoned (s := s.unarmed.pressed k) hfails
    · rw [State.carryGesture, hrequest]
      exact State.completeMode_abandoned (s := s.unarmed.pressed k) hfails
    · have hends := State.exec_confirm_posting (n := .gestureFailed l .acceptItem cause) hchair hconfirm hgesture hpass
        hroom fun k hk => by
          refine ⟨_, ?_, State.post_fills (s := s.unarmed.pressed k) hk⟩
          rw [State.carryGesture, hrequest]
          exact State.completeAcceptance_fails (s := s.unarmed.pressed k) hposture hpresented hloader hfails
      rw [hrequest] at hends
      exact hends

end Sys2Proof.Machine
end

/-!
PROOFS. A confirmed gesture is carried out (R60, R61, R63, R94, R95, R99, R101).
-/
section

namespace Sys2Proof.Machine

section completion
variable {s : State} {l : Nat}

theorem State.completeNew_passes (hnew : s.entry? l = none) (hposture : s.holds.posture = .active)
    (hchain : s.discrete.stopchain.active = true) (hroom : s.holds.entries.length < 6)
    (hothers : ∀ e ∈ s.holds.entries, e.loader ≠ l → e.mode ≠ .drive) :
    s.completeNew l = s.addClaimed l .claim .drive := by
  have hheld : s.isHeld l = false := by simp [State.isHeld, hnew]
  have hfirst : firstFailure [failIf (s.isHeld l) .alreadyHeld, s.postureCheck, s.chainCheck, s.roomCheck,
      s.driveCheck l .drive] = none := by
    simp [failIf, hheld, State.postureCheck_passes hposture, State.chainCheck_passes hchain,
      State.roomCheck_passes hroom, State.driveCheck_passes hothers, firstFailure]
  simp only [State.completeNew, hfirst]

theorem State.completeReclaim_passes {e : Entry} (he : s.entry? l = some e) (hphase : e.phase = .suspended)
    (hposture : s.holds.posture = .active) (hchain : s.discrete.stopchain.active = true)
    (hothers : ∀ e ∈ s.holds.entries, e.loader ≠ l → e.mode ≠ .drive) :
    s.completeReclaim l = s.claimAgain l .reclaim .drive e.epoch := by
  have hfirst : firstFailure [failIf (decide (e.phase ≠ .suspended)) .wrongPhase, s.postureCheck, s.chainCheck,
      s.driveCheck l .drive] = none := by
    simp [failIf, hphase, State.postureCheck_passes hposture, State.chainCheck_passes hchain,
      State.driveCheck_passes hothers, firstFailure]
  simp only [State.completeReclaim, he, hfirst]

theorem State.completeMode_passes {e : Entry} (he : s.entry? l = some e) (hphase : e.phase.isHeld = true)
    (hothers : ∀ e ∈ s.holds.entries, e.loader ≠ l → e.mode ≠ .drive) :
    s.completeMode l = s.claimAgain l (.modeChange e.mode) .drive e.epoch := by
  obtain ⟨hloader, -⟩ := State.entry?_some he
  have hfirst : firstFailure [failIf (!e.phase.isHeld) .wrongPhase, s.driveCheck l .drive] = none := by
    simp [failIf, hphase, State.driveCheck_passes hothers, firstFailure]
  simp only [State.completeMode, he, hfirst, State.changeMode, hloader]

theorem State.completeAcceptance_passes {i : Item} (hpresented : s.presented? = some i) (hloader : i.loader = l)
    (hposture : s.holds.posture = .active) (hchain : s.discrete.stopchain.active = true)
    (hroom : s.holds.entries.length < 6) (hothers : ∀ e ∈ s.holds.entries, e.loader ≠ l → e.mode ≠ .drive) :
    s.completeAcceptance l = s.takeItem i := by
  have hfirst : firstFailure [s.postureCheck, s.chainCheck, failIf (decide (i.loader ≠ l)) .notPresented, s.roomCheck,
      s.driveCheck l .drive] = none := by
    simp [failIf, hloader, State.postureCheck_passes hposture, State.chainCheck_passes hchain,
      State.roomCheck_passes hroom, State.driveCheck_passes hothers, firstFailure]
  simp only [State.completeAcceptance, hpresented, hfirst]

end completion

theorem State.gestureConditions_pass {s : State} {a : Axes} (hseat : s.discrete.seat.active = true)
    (hdeadman : s.discrete.deadman.active = true) (haxes : s.relay.axes = some a)
    (hfresh : s.now - a.arrived ≤ ms (3 * s.settings.p)) (hneutral : a.steer.natAbs ≤ 5 ∧ a.travel.natAbs ≤ 5 ∧
      a.boom.natAbs ≤ 5 ∧ a.bucket.natAbs ≤ 5) : ∀ c ∈ s.gestureConditions, ¬ c.1 := by
  simp only [State.gestureConditions, List.forall_mem_cons, hseat, hdeadman]
  refine ⟨by decide, by decide, fun hstale => ?_, fun h => h ⟨a, haxes, hneutral⟩, fun _ h => nomatch h⟩
  exact absurd (hstale a haxes) (Nat.not_lt.mpr hfresh)

section confirmed
variable {s : State} {g : Gesture} (hchair : s.activeAs .chair = true) (hconfirm : s.discrete.confirm.active = false)
  (hgesture : s.board.gesture = some g) (hconditions : ∀ c ∈ s.gestureConditions, ¬ c.1)
  (hclass : s.liu.classA.length < 8) (hroom : s.link.notices.length < 30)

include hchair hconfirm hgesture hconditions hclass hroom

/-- R99, R101: an edge whose completion adds an entry, whose loader's item leaves the Board. -/
theorem State.exec_confirm_adding {kind : OutKind} {epoch : Epoch}
    (hcarry : ∀ k, (s.unarmed.pressed k).carryGesture g =
      ((s.unarmed.pressed k).addEntry g.loader kind .drive epoch).removeItem g.loader .silent) :
    let done := s.unarmed.pressed s.link
    ∃ t, exec (.filteredEdge .confirm true) s = .next t ∧
      (done.withoutItem g.loader).EntryAdded g.loader kind .drive epoch t ∧
      s.link.Posts ([.input .confirm true, .gestureDone g.loader g.request] ++ done.leavingNotices g.loader)
        (done.leavingFlags g.loader) t.link := by
  intro done
  obtain ⟨k, hfills, hexec⟩ := State.exec_confirm_done hchair hconfirm hgesture hconditions hroom
  have hlength : k.notices.length ≤ s.link.notices.length + 2 := hfills.2
  obtain ⟨hadded, hposts⟩ := State.addClaimed_spec (s := s.unarmed.pressed k) (State.activeAs_iff.mp hchair).1 hclass
    g.loader (by show k.notices.length + 0 < 32; omega) kind .drive epoch
  refine ⟨_, hexec.trans (congrArg _ (hcarry k)), ?_, hfills.1.before hposts.1⟩
  have hbeside : (s.unarmed.pressed k).withoutItem g.loader =
      { done.withoutItem g.loader with liu := done.liu, link := k } :=
    State.withoutItem_beside g.loader done done.liu k
  rw [hbeside] at hadded
  have hliu : (done.withoutItem g.loader).liu = done.liu := by rw [State.withoutItem_frame]
  obtain ⟨hframe, hjoined⟩ := hadded
  exact ⟨hframe, by rw [hliu]; exact hjoined⟩

/-- R99: an edge whose completion makes an entry claim again. -/
theorem State.exec_confirm_claiming {origin : Origin} {epoch : Epoch}
    (hcarry : ∀ k, (s.unarmed.pressed k).carryGesture g =
      (s.unarmed.pressed k).claimAgain g.loader origin .drive epoch) :
    ∃ t, exec (.filteredEdge .confirm true) s = .next t ∧
      (s.unarmed.pressed s.link).ClaimedAgain g.loader origin .drive epoch t ∧
      s.link.Posts [.input .confirm true, .gestureDone g.loader g.request] 0 t.link := by
  obtain ⟨k, hfills, hexec⟩ := State.exec_confirm_done hchair hconfirm hgesture hconditions hroom
  obtain ⟨hclaimed, hlink⟩ := State.claimAgain_spec (s := s.unarmed.pressed k) (State.activeAs_iff.mp hchair).1 hclass
    g.loader origin .drive epoch
  exact ⟨_, hexec.trans (congrArg _ (hcarry k)), hclaimed, by rw [hlink]; exact hfills.1⟩

end confirmed

/-- Settles O42: every condition and every check passes, and the completion carries its request out. -/
theorem aConfirmedGestureIsCarriedOut : Obligations.AConfirmedGestureIsCarriedOut := by
  intro s g a hchair hconfirm hgesture hseat hdeadman haxes hfresh hsteer htravel hboom hbucket hothers hclass hroom
    edge done begun
  have hconditions := State.gestureConditions_pass hseat hdeadman haxes hfresh ⟨hsteer, htravel, hboom, hbucket⟩
  refine ⟨fun hrequest hnew hposture hchain htable => ?_, fun e hrequest he hphase hposture hchain => ?_,
    fun e o hrequest he hphase => ?_, fun i hrequest hpresented hloader hmode hdrive hposture hchain htable => ?_⟩
  · refine State.exec_confirm_adding hchair hconfirm hgesture hconditions hclass hroom fun k => ?_
    rw [State.carryGesture, hrequest]
    exact State.completeNew_passes (s := s.unarmed.pressed k) hnew hposture hchain htable hothers
  · refine State.exec_confirm_claiming hchair hconfirm hgesture hconditions hclass hroom fun k => ?_
    rw [State.carryGesture, hrequest]
    exact State.completeReclaim_passes (s := s.unarmed.pressed k) he hphase hposture hchain hothers
  · refine State.exec_confirm_claiming hchair hconfirm hgesture hconditions hclass hroom fun k => ?_
    rw [State.carryGesture, hrequest]
    exact State.completeMode_passes (s := s.unarmed.pressed k) he (Phase.isHeld_iff.mpr ⟨o, hphase⟩) hothers
  · have hadds := State.exec_confirm_adding (kind := i.kind.answerKind) (epoch := i.epoch) hchair hconfirm hgesture
      hconditions hclass hroom fun k => by
        rw [State.carryGesture, hrequest]
        refine (State.completeAcceptance_passes (s := s.unarmed.pressed k) hpresented hloader hposture hchain htable
          hothers).trans ?_
        rw [State.takeItem, hloader, hmode]
    generalize i.kind = kind at hadds ⊢
    cases kind <;> exact hadds

end Sys2Proof.Machine
end
